-- ==== Sys2Proof/Word.lean ====
section
/-! DEFINITION. The words of the machine: bytes, 64-bit words, encoded register numbers, byte orders and the 64-bit
slots of program text (spec 00_scope.md R7; 10_state.md R20, R21; 30_encoding.md R60, R61). -/

namespace Sys2Proof

/-- A byte of data memory or of program text. -/
abbrev Byte := BitVec 8

/-- The contents of a register, an address, a 64-bit immediate (10_state.md R21). -/
abbrev Word := BitVec 64

/-- A register number as an instruction encodes it, four bits; 11 to 15 name no register (10_state.md R20). -/
abbrev Reg := BitVec 4

/-- The byte order of the platform: `ENDIAN` (20_memory.md R42). -/
inductive Endian where
  | little
  | big
deriving DecidableEq, Repr

/-- One 64-bit slot of program text as its eight bytes in increasing address order (30_encoding.md R61). -/
structure Slot where
  b0 : Byte
  b1 : Byte
  b2 : Byte
  b3 : Byte
  b4 : Byte
  b5 : Byte
  b6 : Byte
  b7 : Byte
deriving DecidableEq, Repr

end Sys2Proof
end

