-- ==== Sys2Proof/Config.lean ====
section
/-! DEFINITION. What the platform fixes for a run (spec 00_scope.md R5, 70_reset_and_hazards.md R442), as plain data, and
the free values: opaque constants that stand for what the spec leaves to the platform or calls a draw. -/

namespace Sys2Proof.Machine

/-- The kinds of access `Admit` and `MemFault` distinguish (20_memory.md R45). -/
inductive AccessKind where
  | read
  | write
  | atomic
deriving DecidableEq, Repr

/-- A region of data memory the platform has given the program (20_memory.md R45): the bytes `base` to
`base + size - 1`, and, for each kind of access, the widths in bytes that are admitted there. `shared` says that other
agents may rewrite it between steps (60_exceptions.md R419). DESIGN CHOICE, log 14: `Admit` as a list of regions. -/
structure Region where
  base : Nat
  size : Nat
  reads : List Nat
  writes : List Nat
  atomics : List Nat
  shared : Bool
deriving DecidableEq, Repr

/-- `ATOMIC_ORDER` (20_memory.md R47, R51, R52; 44_atomic.md R336). The spec leaves its values open and names the default
only, nothing promised (00_scope.md R5). DESIGN CHOICE, log 13: the parameter as two parts. -/
structure AtomicOrder where
  /-- What an atomic operation promises about the order of other accesses: 0 is the default, nothing promised, and every
  other number is a promise that the platform gives a meaning and this model none. Only another agent could observe it,
  so no meaning reads it. -/
  ordering : Nat
  /-- The platform says that a naturally aligned regular access is single-copy atomic (20_memory.md R47). -/
  singleCopy : Bool
deriving DecidableEq, Repr

/-- One helper of a helper table: its 32-bit id and the argument registers whose values it needs in every call
(42_jump.md R228). Which further ones it needs in one call is part of its answer to that call. -/
structure HelperRow where
  id : BitVec 32
  needs : List Reg
deriving DecidableEq, Repr

/-- `Helper` or `HelperBtf`, a partial table (42_jump.md R228). With `total` an id that no row lists is defined too
and needs no argument. -/
structure HelperTable where
  rows : List HelperRow
  total : Bool
deriving DecidableEq, Repr

/-- A partial platform function from keys of `w` bits to addresses (45_imm64.md R372). With `total` a key that no
row lists is defined too and its address is a free value (log 10). -/
structure AddrTable (w : Nat) where
  rows : List (BitVec w × Word)
  total : Bool
deriving DecidableEq, Repr

/-- The parameters of 00_scope.md R5 (DESIGN CHOICE, log 1: held as plain data; no step changes them). -/
structure Platform where
  /-- `ENDIAN`. -/
  endian : Endian
  /-- `Program`, immutable for a run (10_state.md R34). -/
  program : List Slot
  /-- `MAX_INSNS`, where the platform sets one; no rule uses it but the platform's own duty. -/
  maxInsns : Option Nat
  /-- What `Admit` answers from. -/
  regions : List Region
  /-- `MISALIGNED_OK`. -/
  misalignedOk : Bool
  /-- `ATOMIC_ORDER`. -/
  atomicOrder : AtomicOrder
  /-- `Helper`. -/
  helpers : HelperTable
  /-- `HelperBtf`. -/
  btfHelpers : HelperTable
  /-- `MapByFd`. -/
  mapByFd : AddrTable 32
  /-- `MapByIdx`. -/
  mapByIdx : AddrTable 32
  /-- `MapVal`. -/
  mapVal : AddrTable 64
  /-- `VarAddr`. -/
  varAddr : AddrTable 32
  /-- `CodeAddr` by slot index; none: a free injective function (log 11). -/
  codeAddrs : Option (List Word)
  /-- `MAX_CALL_DEPTH`. -/
  maxCallDepth : Nat
  /-- `STACK_SIZE`. -/
  stackSize : Nat
  /-- `EntryRegs` with the values the platform puts there: every register written at entry. -/
  entryRegs : List (Reg × Word)
  /-- `R10_WRITABLE`. -/
  r10Writable : Bool
  /-- The MODEL's own: which of the platforms that fit this description; the argument of every free value. -/
  seed : Nat
deriving DecidableEq, Repr

/-- What a free answer to a helper call may depend on: all that the helper can see and which call it is
(42_jump.md R228, log 8). -/
structure HelperCall where
  seed : Nat
  count : Nat
  btf : Bool
  id : BitVec 32
  args : List (Option Word)
  mem : List Host.Cell
deriving DecidableEq, Repr

/-- The byte at an address that nothing has written: a draw, fixed once read (93_implementation_defined.md U14).
Free value, log 7. -/
opaque Config.unwrittenByte : (seed addr : Nat) → Byte

/-- The argument registers that a helper whose answer the state does not list needs in this call. Free value, log 8. -/
opaque Config.helperNeeds : HelperCall → List Reg

/-- The result of a helper whose answer the state does not list. Free value, log 8. -/
opaque Config.helperResult : HelperCall → Word

/-- The bytes such a helper writes. Free value, log 8. -/
opaque Config.helperWrites : HelperCall → List Host.Cell

/-- `MapByFd` at a key the platform defines and the state does not list. Free value, log 10. -/
opaque Config.mapByFd : (seed : Nat) → BitVec 32 → Word

/-- `MapByIdx` at a key the platform defines and the state does not list. Free value, log 10. -/
opaque Config.mapByIdx : (seed : Nat) → BitVec 32 → Word

/-- `MapVal` at a map the platform defines it for and the state does not list. Free value, log 10. -/
opaque Config.mapVal : (seed : Nat) → BitVec 64 → Word

/-- `VarAddr` at an id the platform defines and the state does not list. Free value, log 10. -/
opaque Config.varAddr : (seed : Nat) → BitVec 32 → Word

/-- The 64-bit values of code pointers, an injective function of the slot index (45_imm64.md R374).
Free value, log 11. -/
opaque Config.codeAddr : (seed : Nat) → Equiv.Perm Word

end Sys2Proof.Machine
end

