-- ==== Sys2Proof/Syntax.lean ====
section
/-! DEFINITION. The abstract syntax: one constructor for every row of spec/opcode_table.json, in the table's order, its
arguments the fields that the row's format uses as operands (spec 30_encoding.md R72), named `dst` and `src` (dst_reg and
src_reg), `off` (offset), `imm` and `nextImm` (the imm of the second slot). -/

namespace Sys2Proof

/-- The instructions of BPF ISA v1.0. The LEGACY rows carry every field, because the spec does not say which of them
they use (46_legacy_packet.md R391, log 20). -/
inductive Instr where
  /-- `add32_imm`, `wD += imm`, format ALU_K (40_alu.md R110). -/
  | add32Imm (dst : Reg) (imm : BitVec 32)
  /-- `add32_reg`, `wD += wS`, format ALU_X (40_alu.md R111). -/
  | add32Reg (dst : Reg) (src : Reg)
  /-- `add64_imm`, `rD += imm`, format ALU_K (40_alu.md R112). -/
  | add64Imm (dst : Reg) (imm : BitVec 32)
  /-- `add64_reg`, `rD += rS`, format ALU_X (40_alu.md R113). -/
  | add64Reg (dst : Reg) (src : Reg)
  /-- `sub32_imm`, `wD -= imm`, format ALU_K (40_alu.md R114). -/
  | sub32Imm (dst : Reg) (imm : BitVec 32)
  /-- `sub32_reg`, `wD -= wS`, format ALU_X (40_alu.md R115). -/
  | sub32Reg (dst : Reg) (src : Reg)
  /-- `sub64_imm`, `rD -= imm`, format ALU_K (40_alu.md R116). -/
  | sub64Imm (dst : Reg) (imm : BitVec 32)
  /-- `sub64_reg`, `rD -= rS`, format ALU_X (40_alu.md R117). -/
  | sub64Reg (dst : Reg) (src : Reg)
  /-- `mul32_imm`, `wD *= imm`, format ALU_K (40_alu.md R118). -/
  | mul32Imm (dst : Reg) (imm : BitVec 32)
  /-- `mul32_reg`, `wD *= wS`, format ALU_X (40_alu.md R119). -/
  | mul32Reg (dst : Reg) (src : Reg)
  /-- `mul64_imm`, `rD *= imm`, format ALU_K (40_alu.md R120). -/
  | mul64Imm (dst : Reg) (imm : BitVec 32)
  /-- `mul64_reg`, `rD *= rS`, format ALU_X (40_alu.md R121). -/
  | mul64Reg (dst : Reg) (src : Reg)
  /-- `div32_imm`, `wD /= imm`, format ALU_K (40_alu.md R122). -/
  | div32Imm (dst : Reg) (imm : BitVec 32)
  /-- `div32_reg`, `wD /= wS`, format ALU_X (40_alu.md R123). -/
  | div32Reg (dst : Reg) (src : Reg)
  /-- `div64_imm`, `rD /= imm`, format ALU_K (40_alu.md R124). -/
  | div64Imm (dst : Reg) (imm : BitVec 32)
  /-- `div64_reg`, `rD /= rS`, format ALU_X (40_alu.md R125). -/
  | div64Reg (dst : Reg) (src : Reg)
  /-- `sdiv32_imm`, `wD s/= imm`, format ALU_K (40_alu.md R126). -/
  | sdiv32Imm (dst : Reg) (imm : BitVec 32)
  /-- `sdiv32_reg`, `wD s/= wS`, format ALU_X (40_alu.md R127). -/
  | sdiv32Reg (dst : Reg) (src : Reg)
  /-- `sdiv64_imm`, `rD s/= imm`, format ALU_K (40_alu.md R128). -/
  | sdiv64Imm (dst : Reg) (imm : BitVec 32)
  /-- `sdiv64_reg`, `rD s/= rS`, format ALU_X (40_alu.md R129). -/
  | sdiv64Reg (dst : Reg) (src : Reg)
  /-- `or32_imm`, `wD |= imm`, format ALU_K (40_alu.md R130). -/
  | or32Imm (dst : Reg) (imm : BitVec 32)
  /-- `or32_reg`, `wD |= wS`, format ALU_X (40_alu.md R131). -/
  | or32Reg (dst : Reg) (src : Reg)
  /-- `or64_imm`, `rD |= imm`, format ALU_K (40_alu.md R132). -/
  | or64Imm (dst : Reg) (imm : BitVec 32)
  /-- `or64_reg`, `rD |= rS`, format ALU_X (40_alu.md R133). -/
  | or64Reg (dst : Reg) (src : Reg)
  /-- `and32_imm`, `wD &= imm`, format ALU_K (40_alu.md R134). -/
  | and32Imm (dst : Reg) (imm : BitVec 32)
  /-- `and32_reg`, `wD &= wS`, format ALU_X (40_alu.md R135). -/
  | and32Reg (dst : Reg) (src : Reg)
  /-- `and64_imm`, `rD &= imm`, format ALU_K (40_alu.md R136). -/
  | and64Imm (dst : Reg) (imm : BitVec 32)
  /-- `and64_reg`, `rD &= rS`, format ALU_X (40_alu.md R137). -/
  | and64Reg (dst : Reg) (src : Reg)
  /-- `lsh32_imm`, `wD <<= imm`, format ALU_K (40_alu.md R138). -/
  | lsh32Imm (dst : Reg) (imm : BitVec 32)
  /-- `lsh32_reg`, `wD <<= wS`, format ALU_X (40_alu.md R139). -/
  | lsh32Reg (dst : Reg) (src : Reg)
  /-- `lsh64_imm`, `rD <<= imm`, format ALU_K (40_alu.md R140). -/
  | lsh64Imm (dst : Reg) (imm : BitVec 32)
  /-- `lsh64_reg`, `rD <<= rS`, format ALU_X (40_alu.md R141). -/
  | lsh64Reg (dst : Reg) (src : Reg)
  /-- `rsh32_imm`, `wD >>= imm`, format ALU_K (40_alu.md R142). -/
  | rsh32Imm (dst : Reg) (imm : BitVec 32)
  /-- `rsh32_reg`, `wD >>= wS`, format ALU_X (40_alu.md R143). -/
  | rsh32Reg (dst : Reg) (src : Reg)
  /-- `rsh64_imm`, `rD >>= imm`, format ALU_K (40_alu.md R144). -/
  | rsh64Imm (dst : Reg) (imm : BitVec 32)
  /-- `rsh64_reg`, `rD >>= rS`, format ALU_X (40_alu.md R145). -/
  | rsh64Reg (dst : Reg) (src : Reg)
  /-- `neg32`, `wD = -wD`, format ALU_NEG (40_alu.md R146). -/
  | neg32 (dst : Reg)
  /-- `neg64`, `rD = -rD`, format ALU_NEG (40_alu.md R147). -/
  | neg64 (dst : Reg)
  /-- `mod32_imm`, `wD %= imm`, format ALU_K (40_alu.md R148). -/
  | mod32Imm (dst : Reg) (imm : BitVec 32)
  /-- `mod32_reg`, `wD %= wS`, format ALU_X (40_alu.md R149). -/
  | mod32Reg (dst : Reg) (src : Reg)
  /-- `mod64_imm`, `rD %= imm`, format ALU_K (40_alu.md R150). -/
  | mod64Imm (dst : Reg) (imm : BitVec 32)
  /-- `mod64_reg`, `rD %= rS`, format ALU_X (40_alu.md R151). -/
  | mod64Reg (dst : Reg) (src : Reg)
  /-- `smod32_imm`, `wD s%= imm`, format ALU_K (40_alu.md R152). -/
  | smod32Imm (dst : Reg) (imm : BitVec 32)
  /-- `smod32_reg`, `wD s%= wS`, format ALU_X (40_alu.md R153). -/
  | smod32Reg (dst : Reg) (src : Reg)
  /-- `smod64_imm`, `rD s%= imm`, format ALU_K (40_alu.md R154). -/
  | smod64Imm (dst : Reg) (imm : BitVec 32)
  /-- `smod64_reg`, `rD s%= rS`, format ALU_X (40_alu.md R155). -/
  | smod64Reg (dst : Reg) (src : Reg)
  /-- `xor32_imm`, `wD ^= imm`, format ALU_K (40_alu.md R156). -/
  | xor32Imm (dst : Reg) (imm : BitVec 32)
  /-- `xor32_reg`, `wD ^= wS`, format ALU_X (40_alu.md R157). -/
  | xor32Reg (dst : Reg) (src : Reg)
  /-- `xor64_imm`, `rD ^= imm`, format ALU_K (40_alu.md R158). -/
  | xor64Imm (dst : Reg) (imm : BitVec 32)
  /-- `xor64_reg`, `rD ^= rS`, format ALU_X (40_alu.md R159). -/
  | xor64Reg (dst : Reg) (src : Reg)
  /-- `mov32_imm`, `wD = imm`, format ALU_K (40_alu.md R160). -/
  | mov32Imm (dst : Reg) (imm : BitVec 32)
  /-- `mov32_reg`, `wD = wS`, format ALU_X (40_alu.md R161). -/
  | mov32Reg (dst : Reg) (src : Reg)
  /-- `mov64_imm`, `rD = imm`, format ALU_K (40_alu.md R162). -/
  | mov64Imm (dst : Reg) (imm : BitVec 32)
  /-- `mov64_reg`, `rD = rS`, format ALU_X (40_alu.md R163). -/
  | mov64Reg (dst : Reg) (src : Reg)
  /-- `movsx8_32`, `wD = (s8)wS`, format ALU_X (40_alu.md R164). -/
  | movsx8To32 (dst : Reg) (src : Reg)
  /-- `movsx16_32`, `wD = (s16)wS`, format ALU_X (40_alu.md R165). -/
  | movsx16To32 (dst : Reg) (src : Reg)
  /-- `movsx8_64`, `rD = (s8)rS`, format ALU_X (40_alu.md R166). -/
  | movsx8To64 (dst : Reg) (src : Reg)
  /-- `movsx16_64`, `rD = (s16)rS`, format ALU_X (40_alu.md R167). -/
  | movsx16To64 (dst : Reg) (src : Reg)
  /-- `movsx32_64`, `rD = (s32)rS`, format ALU_X (40_alu.md R168). -/
  | movsx32To64 (dst : Reg) (src : Reg)
  /-- `arsh32_imm`, `wD s>>= imm`, format ALU_K (40_alu.md R169). -/
  | arsh32Imm (dst : Reg) (imm : BitVec 32)
  /-- `arsh32_reg`, `wD s>>= wS`, format ALU_X (40_alu.md R170). -/
  | arsh32Reg (dst : Reg) (src : Reg)
  /-- `arsh64_imm`, `rD s>>= imm`, format ALU_K (40_alu.md R171). -/
  | arsh64Imm (dst : Reg) (imm : BitVec 32)
  /-- `arsh64_reg`, `rD s>>= rS`, format ALU_X (40_alu.md R172). -/
  | arsh64Reg (dst : Reg) (src : Reg)
  /-- `le16`, `rD = le16 rD`, format ALU_END (41_byteswap.md R205). -/
  | le16 (dst : Reg)
  /-- `le32`, `rD = le32 rD`, format ALU_END (41_byteswap.md R206). -/
  | le32 (dst : Reg)
  /-- `le64`, `rD = le64 rD`, format ALU_END (41_byteswap.md R207). -/
  | le64 (dst : Reg)
  /-- `be16`, `rD = be16 rD`, format ALU_END (41_byteswap.md R208). -/
  | be16 (dst : Reg)
  /-- `be32`, `rD = be32 rD`, format ALU_END (41_byteswap.md R209). -/
  | be32 (dst : Reg)
  /-- `be64`, `rD = be64 rD`, format ALU_END (41_byteswap.md R210). -/
  | be64 (dst : Reg)
  /-- `bswap16`, `rD = bswap16 rD`, format ALU_END (41_byteswap.md R211). -/
  | bswap16 (dst : Reg)
  /-- `bswap32`, `rD = bswap32 rD`, format ALU_END (41_byteswap.md R212). -/
  | bswap32 (dst : Reg)
  /-- `bswap64`, `rD = bswap64 rD`, format ALU_END (41_byteswap.md R213). -/
  | bswap64 (dst : Reg)
  /-- `ja`, `goto +off`, format JA16 (42_jump.md R230). -/
  | ja (off : BitVec 16)
  /-- `ja32`, `gotol +imm`, format JA32 (42_jump.md R231). -/
  | ja32 (imm : BitVec 32)
  /-- `jeq_imm`, `if rD == imm goto +off`, format JCC_K (42_jump.md R232). -/
  | jeqImm (dst : Reg) (off : BitVec 16) (imm : BitVec 32)
  /-- `jeq_reg`, `if rD == rS goto +off`, format JCC_X (42_jump.md R233). -/
  | jeqReg (dst : Reg) (src : Reg) (off : BitVec 16)
  /-- `jeq32_imm`, `if wD == imm goto +off`, format JCC_K (42_jump.md R234). -/
  | jeq32Imm (dst : Reg) (off : BitVec 16) (imm : BitVec 32)
  /-- `jeq32_reg`, `if wD == wS goto +off`, format JCC_X (42_jump.md R235). -/
  | jeq32Reg (dst : Reg) (src : Reg) (off : BitVec 16)
  /-- `jgt_imm`, `if rD > imm goto +off`, format JCC_K (42_jump.md R236). -/
  | jgtImm (dst : Reg) (off : BitVec 16) (imm : BitVec 32)
  /-- `jgt_reg`, `if rD > rS goto +off`, format JCC_X (42_jump.md R237). -/
  | jgtReg (dst : Reg) (src : Reg) (off : BitVec 16)
  /-- `jgt32_imm`, `if wD > imm goto +off`, format JCC_K (42_jump.md R238). -/
  | jgt32Imm (dst : Reg) (off : BitVec 16) (imm : BitVec 32)
  /-- `jgt32_reg`, `if wD > wS goto +off`, format JCC_X (42_jump.md R239). -/
  | jgt32Reg (dst : Reg) (src : Reg) (off : BitVec 16)
  /-- `jge_imm`, `if rD >= imm goto +off`, format JCC_K (42_jump.md R240). -/
  | jgeImm (dst : Reg) (off : BitVec 16) (imm : BitVec 32)
  /-- `jge_reg`, `if rD >= rS goto +off`, format JCC_X (42_jump.md R241). -/
  | jgeReg (dst : Reg) (src : Reg) (off : BitVec 16)
  /-- `jge32_imm`, `if wD >= imm goto +off`, format JCC_K (42_jump.md R242). -/
  | jge32Imm (dst : Reg) (off : BitVec 16) (imm : BitVec 32)
  /-- `jge32_reg`, `if wD >= wS goto +off`, format JCC_X (42_jump.md R243). -/
  | jge32Reg (dst : Reg) (src : Reg) (off : BitVec 16)
  /-- `jset_imm`, `if rD & imm goto +off`, format JCC_K (42_jump.md R244). -/
  | jsetImm (dst : Reg) (off : BitVec 16) (imm : BitVec 32)
  /-- `jset_reg`, `if rD & rS goto +off`, format JCC_X (42_jump.md R245). -/
  | jsetReg (dst : Reg) (src : Reg) (off : BitVec 16)
  /-- `jset32_imm`, `if wD & imm goto +off`, format JCC_K (42_jump.md R246). -/
  | jset32Imm (dst : Reg) (off : BitVec 16) (imm : BitVec 32)
  /-- `jset32_reg`, `if wD & wS goto +off`, format JCC_X (42_jump.md R247). -/
  | jset32Reg (dst : Reg) (src : Reg) (off : BitVec 16)
  /-- `jne_imm`, `if rD != imm goto +off`, format JCC_K (42_jump.md R248). -/
  | jneImm (dst : Reg) (off : BitVec 16) (imm : BitVec 32)
  /-- `jne_reg`, `if rD != rS goto +off`, format JCC_X (42_jump.md R249). -/
  | jneReg (dst : Reg) (src : Reg) (off : BitVec 16)
  /-- `jne32_imm`, `if wD != imm goto +off`, format JCC_K (42_jump.md R250). -/
  | jne32Imm (dst : Reg) (off : BitVec 16) (imm : BitVec 32)
  /-- `jne32_reg`, `if wD != wS goto +off`, format JCC_X (42_jump.md R251). -/
  | jne32Reg (dst : Reg) (src : Reg) (off : BitVec 16)
  /-- `jsgt_imm`, `if rD s> imm goto +off`, format JCC_K (42_jump.md R252). -/
  | jsgtImm (dst : Reg) (off : BitVec 16) (imm : BitVec 32)
  /-- `jsgt_reg`, `if rD s> rS goto +off`, format JCC_X (42_jump.md R253). -/
  | jsgtReg (dst : Reg) (src : Reg) (off : BitVec 16)
  /-- `jsgt32_imm`, `if wD s> imm goto +off`, format JCC_K (42_jump.md R254). -/
  | jsgt32Imm (dst : Reg) (off : BitVec 16) (imm : BitVec 32)
  /-- `jsgt32_reg`, `if wD s> wS goto +off`, format JCC_X (42_jump.md R255). -/
  | jsgt32Reg (dst : Reg) (src : Reg) (off : BitVec 16)
  /-- `jsge_imm`, `if rD s>= imm goto +off`, format JCC_K (42_jump.md R256). -/
  | jsgeImm (dst : Reg) (off : BitVec 16) (imm : BitVec 32)
  /-- `jsge_reg`, `if rD s>= rS goto +off`, format JCC_X (42_jump.md R257). -/
  | jsgeReg (dst : Reg) (src : Reg) (off : BitVec 16)
  /-- `jsge32_imm`, `if wD s>= imm goto +off`, format JCC_K (42_jump.md R258). -/
  | jsge32Imm (dst : Reg) (off : BitVec 16) (imm : BitVec 32)
  /-- `jsge32_reg`, `if wD s>= wS goto +off`, format JCC_X (42_jump.md R259). -/
  | jsge32Reg (dst : Reg) (src : Reg) (off : BitVec 16)
  /-- `jlt_imm`, `if rD < imm goto +off`, format JCC_K (42_jump.md R260). -/
  | jltImm (dst : Reg) (off : BitVec 16) (imm : BitVec 32)
  /-- `jlt_reg`, `if rD < rS goto +off`, format JCC_X (42_jump.md R261). -/
  | jltReg (dst : Reg) (src : Reg) (off : BitVec 16)
  /-- `jlt32_imm`, `if wD < imm goto +off`, format JCC_K (42_jump.md R262). -/
  | jlt32Imm (dst : Reg) (off : BitVec 16) (imm : BitVec 32)
  /-- `jlt32_reg`, `if wD < wS goto +off`, format JCC_X (42_jump.md R263). -/
  | jlt32Reg (dst : Reg) (src : Reg) (off : BitVec 16)
  /-- `jle_imm`, `if rD <= imm goto +off`, format JCC_K (42_jump.md R264). -/
  | jleImm (dst : Reg) (off : BitVec 16) (imm : BitVec 32)
  /-- `jle_reg`, `if rD <= rS goto +off`, format JCC_X (42_jump.md R265). -/
  | jleReg (dst : Reg) (src : Reg) (off : BitVec 16)
  /-- `jle32_imm`, `if wD <= imm goto +off`, format JCC_K (42_jump.md R266). -/
  | jle32Imm (dst : Reg) (off : BitVec 16) (imm : BitVec 32)
  /-- `jle32_reg`, `if wD <= wS goto +off`, format JCC_X (42_jump.md R267). -/
  | jle32Reg (dst : Reg) (src : Reg) (off : BitVec 16)
  /-- `jslt_imm`, `if rD s< imm goto +off`, format JCC_K (42_jump.md R268). -/
  | jsltImm (dst : Reg) (off : BitVec 16) (imm : BitVec 32)
  /-- `jslt_reg`, `if rD s< rS goto +off`, format JCC_X (42_jump.md R269). -/
  | jsltReg (dst : Reg) (src : Reg) (off : BitVec 16)
  /-- `jslt32_imm`, `if wD s< imm goto +off`, format JCC_K (42_jump.md R270). -/
  | jslt32Imm (dst : Reg) (off : BitVec 16) (imm : BitVec 32)
  /-- `jslt32_reg`, `if wD s< wS goto +off`, format JCC_X (42_jump.md R271). -/
  | jslt32Reg (dst : Reg) (src : Reg) (off : BitVec 16)
  /-- `jsle_imm`, `if rD s<= imm goto +off`, format JCC_K (42_jump.md R272). -/
  | jsleImm (dst : Reg) (off : BitVec 16) (imm : BitVec 32)
  /-- `jsle_reg`, `if rD s<= rS goto +off`, format JCC_X (42_jump.md R273). -/
  | jsleReg (dst : Reg) (src : Reg) (off : BitVec 16)
  /-- `jsle32_imm`, `if wD s<= imm goto +off`, format JCC_K (42_jump.md R274). -/
  | jsle32Imm (dst : Reg) (off : BitVec 16) (imm : BitVec 32)
  /-- `jsle32_reg`, `if wD s<= wS goto +off`, format JCC_X (42_jump.md R275). -/
  | jsle32Reg (dst : Reg) (src : Reg) (off : BitVec 16)
  /-- `call_helper`, `call imm`, format CALL (42_jump.md R276). -/
  | callHelper (imm : BitVec 32)
  /-- `call_local`, `call pc+imm`, format CALL (42_jump.md R277). -/
  | callLocal (imm : BitVec 32)
  /-- `call_btf`, `call btf imm`, format CALL (42_jump.md R278). -/
  | callBtf (imm : BitVec 32)
  /-- `exit`, `exit`, format EXIT (42_jump.md R279). -/
  | exit
  /-- `stxb`, `*(u8 *)(rD + off) = rS`, format STX (43_load_store.md R310). -/
  | stxb (dst : Reg) (src : Reg) (off : BitVec 16)
  /-- `stxh`, `*(u16 *)(rD + off) = rS`, format STX (43_load_store.md R311). -/
  | stxh (dst : Reg) (src : Reg) (off : BitVec 16)
  /-- `stxw`, `*(u32 *)(rD + off) = rS`, format STX (43_load_store.md R312). -/
  | stxw (dst : Reg) (src : Reg) (off : BitVec 16)
  /-- `stxdw`, `*(u64 *)(rD + off) = rS`, format STX (43_load_store.md R313). -/
  | stxdw (dst : Reg) (src : Reg) (off : BitVec 16)
  /-- `stb`, `*(u8 *)(rD + off) = imm`, format ST (43_load_store.md R314). -/
  | stb (dst : Reg) (off : BitVec 16) (imm : BitVec 32)
  /-- `sth`, `*(u16 *)(rD + off) = imm`, format ST (43_load_store.md R315). -/
  | sth (dst : Reg) (off : BitVec 16) (imm : BitVec 32)
  /-- `stw`, `*(u32 *)(rD + off) = imm`, format ST (43_load_store.md R316). -/
  | stw (dst : Reg) (off : BitVec 16) (imm : BitVec 32)
  /-- `stdw`, `*(u64 *)(rD + off) = imm`, format ST (43_load_store.md R317). -/
  | stdw (dst : Reg) (off : BitVec 16) (imm : BitVec 32)
  /-- `ldxb`, `rD = *(u8 *)(rS + off)`, format LDX (43_load_store.md R318). -/
  | ldxb (dst : Reg) (src : Reg) (off : BitVec 16)
  /-- `ldxh`, `rD = *(u16 *)(rS + off)`, format LDX (43_load_store.md R319). -/
  | ldxh (dst : Reg) (src : Reg) (off : BitVec 16)
  /-- `ldxw`, `rD = *(u32 *)(rS + off)`, format LDX (43_load_store.md R320). -/
  | ldxw (dst : Reg) (src : Reg) (off : BitVec 16)
  /-- `ldxdw`, `rD = *(u64 *)(rS + off)`, format LDX (43_load_store.md R321). -/
  | ldxdw (dst : Reg) (src : Reg) (off : BitVec 16)
  /-- `ldxsb`, `rD = *(s8 *)(rS + off)`, format LDX (43_load_store.md R322). -/
  | ldxsb (dst : Reg) (src : Reg) (off : BitVec 16)
  /-- `ldxsh`, `rD = *(s16 *)(rS + off)`, format LDX (43_load_store.md R323). -/
  | ldxsh (dst : Reg) (src : Reg) (off : BitVec 16)
  /-- `ldxsw`, `rD = *(s32 *)(rS + off)`, format LDX (43_load_store.md R324). -/
  | ldxsw (dst : Reg) (src : Reg) (off : BitVec 16)
  /-- `atomic_add32`, `lock *(u32 *)(rD + off) += wS`, format ATOMIC (44_atomic.md R340). -/
  | atomicAdd32 (dst : Reg) (src : Reg) (off : BitVec 16)
  /-- `atomic_fetch_add32`, `wS = atomic_fetch_add((u32 *)(rD + off), wS)`, format ATOMIC (44_atomic.md R341). -/
  | atomicFetchAdd32 (dst : Reg) (src : Reg) (off : BitVec 16)
  /-- `atomic_or32`, `lock *(u32 *)(rD + off) |= wS`, format ATOMIC (44_atomic.md R342). -/
  | atomicOr32 (dst : Reg) (src : Reg) (off : BitVec 16)
  /-- `atomic_fetch_or32`, `wS = atomic_fetch_or((u32 *)(rD + off), wS)`, format ATOMIC (44_atomic.md R343). -/
  | atomicFetchOr32 (dst : Reg) (src : Reg) (off : BitVec 16)
  /-- `atomic_and32`, `lock *(u32 *)(rD + off) &= wS`, format ATOMIC (44_atomic.md R344). -/
  | atomicAnd32 (dst : Reg) (src : Reg) (off : BitVec 16)
  /-- `atomic_fetch_and32`, `wS = atomic_fetch_and((u32 *)(rD + off), wS)`, format ATOMIC (44_atomic.md R345). -/
  | atomicFetchAnd32 (dst : Reg) (src : Reg) (off : BitVec 16)
  /-- `atomic_xor32`, `lock *(u32 *)(rD + off) ^= wS`, format ATOMIC (44_atomic.md R346). -/
  | atomicXor32 (dst : Reg) (src : Reg) (off : BitVec 16)
  /-- `atomic_fetch_xor32`, `wS = atomic_fetch_xor((u32 *)(rD + off), wS)`, format ATOMIC (44_atomic.md R347). -/
  | atomicFetchXor32 (dst : Reg) (src : Reg) (off : BitVec 16)
  /-- `atomic_xchg32`, `wS = xchg32_32(rD + off, wS)`, format ATOMIC (44_atomic.md R348). -/
  | atomicXchg32 (dst : Reg) (src : Reg) (off : BitVec 16)
  /-- `atomic_cmpxchg32`, `w0 = cmpxchg32_32(rD + off, w0, wS)`, format ATOMIC (44_atomic.md R349). -/
  | atomicCmpxchg32 (dst : Reg) (src : Reg) (off : BitVec 16)
  /-- `atomic_add64`, `lock *(u64 *)(rD + off) += rS`, format ATOMIC (44_atomic.md R350). -/
  | atomicAdd64 (dst : Reg) (src : Reg) (off : BitVec 16)
  /-- `atomic_fetch_add64`, `rS = atomic_fetch_add((u64 *)(rD + off), rS)`, format ATOMIC (44_atomic.md R351). -/
  | atomicFetchAdd64 (dst : Reg) (src : Reg) (off : BitVec 16)
  /-- `atomic_or64`, `lock *(u64 *)(rD + off) |= rS`, format ATOMIC (44_atomic.md R352). -/
  | atomicOr64 (dst : Reg) (src : Reg) (off : BitVec 16)
  /-- `atomic_fetch_or64`, `rS = atomic_fetch_or((u64 *)(rD + off), rS)`, format ATOMIC (44_atomic.md R353). -/
  | atomicFetchOr64 (dst : Reg) (src : Reg) (off : BitVec 16)
  /-- `atomic_and64`, `lock *(u64 *)(rD + off) &= rS`, format ATOMIC (44_atomic.md R354). -/
  | atomicAnd64 (dst : Reg) (src : Reg) (off : BitVec 16)
  /-- `atomic_fetch_and64`, `rS = atomic_fetch_and((u64 *)(rD + off), rS)`, format ATOMIC (44_atomic.md R355). -/
  | atomicFetchAnd64 (dst : Reg) (src : Reg) (off : BitVec 16)
  /-- `atomic_xor64`, `lock *(u64 *)(rD + off) ^= rS`, format ATOMIC (44_atomic.md R356). -/
  | atomicXor64 (dst : Reg) (src : Reg) (off : BitVec 16)
  /-- `atomic_fetch_xor64`, `rS = atomic_fetch_xor((u64 *)(rD + off), rS)`, format ATOMIC (44_atomic.md R357). -/
  | atomicFetchXor64 (dst : Reg) (src : Reg) (off : BitVec 16)
  /-- `atomic_xchg64`, `rS = xchg_64(rD + off, rS)`, format ATOMIC (44_atomic.md R358). -/
  | atomicXchg64 (dst : Reg) (src : Reg) (off : BitVec 16)
  /-- `atomic_cmpxchg64`, `r0 = cmpxchg_64(rD + off, r0, rS)`, format ATOMIC (44_atomic.md R359). -/
  | atomicCmpxchg64 (dst : Reg) (src : Reg) (off : BitVec 16)
  /-- `lddw`, `rD = imm64 ll`, format LDDW (45_imm64.md R378). -/
  | lddw (dst : Reg) (imm : BitVec 32) (nextImm : BitVec 32)
  /-- `ld_map_fd`, `rD = map_by_fd(imm) ll`, format LDDW (45_imm64.md R379). -/
  | ldMapFd (dst : Reg) (imm : BitVec 32)
  /-- `ld_map_value_fd`, `rD = map_val(map_by_fd(imm)) + next_imm ll`, format LDDW (45_imm64.md R380). -/
  | ldMapValueFd (dst : Reg) (imm : BitVec 32) (nextImm : BitVec 32)
  /-- `ld_var_addr`, `rD = var_addr(imm) ll`, format LDDW (45_imm64.md R381). -/
  | ldVarAddr (dst : Reg) (imm : BitVec 32)
  /-- `ld_code_addr`, `rD = code_addr(imm) ll`, format LDDW (45_imm64.md R382). -/
  | ldCodeAddr (dst : Reg) (imm : BitVec 32)
  /-- `ld_map_idx`, `rD = map_by_idx(imm) ll`, format LDDW (45_imm64.md R383). -/
  | ldMapIdx (dst : Reg) (imm : BitVec 32)
  /-- `ld_map_value_idx`, `rD = map_val(map_by_idx(imm)) + next_imm ll`, format LDDW (45_imm64.md R384). -/
  | ldMapValueIdx (dst : Reg) (imm : BitVec 32) (nextImm : BitVec 32)
  /-- `ldabsw`, `r0 = *(u32 *)skb[imm] (display only)`, format LEGACY (46_legacy_packet.md R393). -/
  | ldabsw (dst : Reg) (src : Reg) (off : BitVec 16) (imm : BitVec 32)
  /-- `ldabsh`, `r0 = *(u16 *)skb[imm] (display only)`, format LEGACY (46_legacy_packet.md R394). -/
  | ldabsh (dst : Reg) (src : Reg) (off : BitVec 16) (imm : BitVec 32)
  /-- `ldabsb`, `r0 = *(u8 *)skb[imm] (display only)`, format LEGACY (46_legacy_packet.md R395). -/
  | ldabsb (dst : Reg) (src : Reg) (off : BitVec 16) (imm : BitVec 32)
  /-- `ldindw`, `r0 = *(u32 *)skb[rS + imm] (display only)`, format LEGACY (46_legacy_packet.md R396). -/
  | ldindw (dst : Reg) (src : Reg) (off : BitVec 16) (imm : BitVec 32)
  /-- `ldindh`, `r0 = *(u16 *)skb[rS + imm] (display only)`, format LEGACY (46_legacy_packet.md R397). -/
  | ldindh (dst : Reg) (src : Reg) (off : BitVec 16) (imm : BitVec 32)
  /-- `ldindb`, `r0 = *(u8 *)skb[rS + imm] (display only)`, format LEGACY (46_legacy_packet.md R398). -/
  | ldindb (dst : Reg) (src : Reg) (off : BitVec 16) (imm : BitVec 32)
deriving DecidableEq, Repr

/-- How many slots an instruction takes: two for the wide encoding, opcode 0x18, else one (30_encoding.md R79). -/
def Instr.slots : Instr → Nat
  | .add32Imm _ _ => 1
  | .add32Reg _ _ => 1
  | .add64Imm _ _ => 1
  | .add64Reg _ _ => 1
  | .sub32Imm _ _ => 1
  | .sub32Reg _ _ => 1
  | .sub64Imm _ _ => 1
  | .sub64Reg _ _ => 1
  | .mul32Imm _ _ => 1
  | .mul32Reg _ _ => 1
  | .mul64Imm _ _ => 1
  | .mul64Reg _ _ => 1
  | .div32Imm _ _ => 1
  | .div32Reg _ _ => 1
  | .div64Imm _ _ => 1
  | .div64Reg _ _ => 1
  | .sdiv32Imm _ _ => 1
  | .sdiv32Reg _ _ => 1
  | .sdiv64Imm _ _ => 1
  | .sdiv64Reg _ _ => 1
  | .or32Imm _ _ => 1
  | .or32Reg _ _ => 1
  | .or64Imm _ _ => 1
  | .or64Reg _ _ => 1
  | .and32Imm _ _ => 1
  | .and32Reg _ _ => 1
  | .and64Imm _ _ => 1
  | .and64Reg _ _ => 1
  | .lsh32Imm _ _ => 1
  | .lsh32Reg _ _ => 1
  | .lsh64Imm _ _ => 1
  | .lsh64Reg _ _ => 1
  | .rsh32Imm _ _ => 1
  | .rsh32Reg _ _ => 1
  | .rsh64Imm _ _ => 1
  | .rsh64Reg _ _ => 1
  | .neg32 _ => 1
  | .neg64 _ => 1
  | .mod32Imm _ _ => 1
  | .mod32Reg _ _ => 1
  | .mod64Imm _ _ => 1
  | .mod64Reg _ _ => 1
  | .smod32Imm _ _ => 1
  | .smod32Reg _ _ => 1
  | .smod64Imm _ _ => 1
  | .smod64Reg _ _ => 1
  | .xor32Imm _ _ => 1
  | .xor32Reg _ _ => 1
  | .xor64Imm _ _ => 1
  | .xor64Reg _ _ => 1
  | .mov32Imm _ _ => 1
  | .mov32Reg _ _ => 1
  | .mov64Imm _ _ => 1
  | .mov64Reg _ _ => 1
  | .movsx8To32 _ _ => 1
  | .movsx16To32 _ _ => 1
  | .movsx8To64 _ _ => 1
  | .movsx16To64 _ _ => 1
  | .movsx32To64 _ _ => 1
  | .arsh32Imm _ _ => 1
  | .arsh32Reg _ _ => 1
  | .arsh64Imm _ _ => 1
  | .arsh64Reg _ _ => 1
  | .le16 _ => 1
  | .le32 _ => 1
  | .le64 _ => 1
  | .be16 _ => 1
  | .be32 _ => 1
  | .be64 _ => 1
  | .bswap16 _ => 1
  | .bswap32 _ => 1
  | .bswap64 _ => 1
  | .ja _ => 1
  | .ja32 _ => 1
  | .jeqImm _ _ _ => 1
  | .jeqReg _ _ _ => 1
  | .jeq32Imm _ _ _ => 1
  | .jeq32Reg _ _ _ => 1
  | .jgtImm _ _ _ => 1
  | .jgtReg _ _ _ => 1
  | .jgt32Imm _ _ _ => 1
  | .jgt32Reg _ _ _ => 1
  | .jgeImm _ _ _ => 1
  | .jgeReg _ _ _ => 1
  | .jge32Imm _ _ _ => 1
  | .jge32Reg _ _ _ => 1
  | .jsetImm _ _ _ => 1
  | .jsetReg _ _ _ => 1
  | .jset32Imm _ _ _ => 1
  | .jset32Reg _ _ _ => 1
  | .jneImm _ _ _ => 1
  | .jneReg _ _ _ => 1
  | .jne32Imm _ _ _ => 1
  | .jne32Reg _ _ _ => 1
  | .jsgtImm _ _ _ => 1
  | .jsgtReg _ _ _ => 1
  | .jsgt32Imm _ _ _ => 1
  | .jsgt32Reg _ _ _ => 1
  | .jsgeImm _ _ _ => 1
  | .jsgeReg _ _ _ => 1
  | .jsge32Imm _ _ _ => 1
  | .jsge32Reg _ _ _ => 1
  | .jltImm _ _ _ => 1
  | .jltReg _ _ _ => 1
  | .jlt32Imm _ _ _ => 1
  | .jlt32Reg _ _ _ => 1
  | .jleImm _ _ _ => 1
  | .jleReg _ _ _ => 1
  | .jle32Imm _ _ _ => 1
  | .jle32Reg _ _ _ => 1
  | .jsltImm _ _ _ => 1
  | .jsltReg _ _ _ => 1
  | .jslt32Imm _ _ _ => 1
  | .jslt32Reg _ _ _ => 1
  | .jsleImm _ _ _ => 1
  | .jsleReg _ _ _ => 1
  | .jsle32Imm _ _ _ => 1
  | .jsle32Reg _ _ _ => 1
  | .callHelper _ => 1
  | .callLocal _ => 1
  | .callBtf _ => 1
  | .exit => 1
  | .stxb _ _ _ => 1
  | .stxh _ _ _ => 1
  | .stxw _ _ _ => 1
  | .stxdw _ _ _ => 1
  | .stb _ _ _ => 1
  | .sth _ _ _ => 1
  | .stw _ _ _ => 1
  | .stdw _ _ _ => 1
  | .ldxb _ _ _ => 1
  | .ldxh _ _ _ => 1
  | .ldxw _ _ _ => 1
  | .ldxdw _ _ _ => 1
  | .ldxsb _ _ _ => 1
  | .ldxsh _ _ _ => 1
  | .ldxsw _ _ _ => 1
  | .atomicAdd32 _ _ _ => 1
  | .atomicFetchAdd32 _ _ _ => 1
  | .atomicOr32 _ _ _ => 1
  | .atomicFetchOr32 _ _ _ => 1
  | .atomicAnd32 _ _ _ => 1
  | .atomicFetchAnd32 _ _ _ => 1
  | .atomicXor32 _ _ _ => 1
  | .atomicFetchXor32 _ _ _ => 1
  | .atomicXchg32 _ _ _ => 1
  | .atomicCmpxchg32 _ _ _ => 1
  | .atomicAdd64 _ _ _ => 1
  | .atomicFetchAdd64 _ _ _ => 1
  | .atomicOr64 _ _ _ => 1
  | .atomicFetchOr64 _ _ _ => 1
  | .atomicAnd64 _ _ _ => 1
  | .atomicFetchAnd64 _ _ _ => 1
  | .atomicXor64 _ _ _ => 1
  | .atomicFetchXor64 _ _ _ => 1
  | .atomicXchg64 _ _ _ => 1
  | .atomicCmpxchg64 _ _ _ => 1
  | .lddw _ _ _ => 2
  | .ldMapFd _ _ => 2
  | .ldMapValueFd _ _ _ => 2
  | .ldVarAddr _ _ => 2
  | .ldCodeAddr _ _ => 2
  | .ldMapIdx _ _ => 2
  | .ldMapValueIdx _ _ _ => 2
  | .ldabsw _ _ _ _ => 1
  | .ldabsh _ _ _ _ => 1
  | .ldabsb _ _ _ _ => 1
  | .ldindw _ _ _ _ => 1
  | .ldindh _ _ _ _ => 1
  | .ldindb _ _ _ _ => 1

end Sys2Proof
end

