-- ==== Sys2Proof/WellFormed.lean ====
section
/-! DEFINITION. Well-formed instructions: every field that format R72 marks as a register number names one of the
registers 0 to 10 (spec 30_encoding.md R76, R83). The other operand fields may hold any value; selectors and unused
fields are not part of the syntax. -/

namespace Sys2Proof

/-- The encoded number names a register (10_state.md R20). -/
def Reg.valid (r : Reg) : Bool := decide (r.toNat ≤ 10)

/-- The register operands of an instruction, in the order its rule reads them; src_reg is no register in calls and
64-bit immediates (30_encoding.md R65, 45_imm64.md R376). -/
def Instr.regs : Instr → List Reg
  | .add32Imm dst _ => [dst]
  | .add32Reg dst src => [dst, src]
  | .add64Imm dst _ => [dst]
  | .add64Reg dst src => [dst, src]
  | .sub32Imm dst _ => [dst]
  | .sub32Reg dst src => [dst, src]
  | .sub64Imm dst _ => [dst]
  | .sub64Reg dst src => [dst, src]
  | .mul32Imm dst _ => [dst]
  | .mul32Reg dst src => [dst, src]
  | .mul64Imm dst _ => [dst]
  | .mul64Reg dst src => [dst, src]
  | .div32Imm dst _ => [dst]
  | .div32Reg dst src => [dst, src]
  | .div64Imm dst _ => [dst]
  | .div64Reg dst src => [dst, src]
  | .sdiv32Imm dst _ => [dst]
  | .sdiv32Reg dst src => [dst, src]
  | .sdiv64Imm dst _ => [dst]
  | .sdiv64Reg dst src => [dst, src]
  | .or32Imm dst _ => [dst]
  | .or32Reg dst src => [dst, src]
  | .or64Imm dst _ => [dst]
  | .or64Reg dst src => [dst, src]
  | .and32Imm dst _ => [dst]
  | .and32Reg dst src => [dst, src]
  | .and64Imm dst _ => [dst]
  | .and64Reg dst src => [dst, src]
  | .lsh32Imm dst _ => [dst]
  | .lsh32Reg dst src => [dst, src]
  | .lsh64Imm dst _ => [dst]
  | .lsh64Reg dst src => [dst, src]
  | .rsh32Imm dst _ => [dst]
  | .rsh32Reg dst src => [dst, src]
  | .rsh64Imm dst _ => [dst]
  | .rsh64Reg dst src => [dst, src]
  | .neg32 dst => [dst]
  | .neg64 dst => [dst]
  | .mod32Imm dst _ => [dst]
  | .mod32Reg dst src => [dst, src]
  | .mod64Imm dst _ => [dst]
  | .mod64Reg dst src => [dst, src]
  | .smod32Imm dst _ => [dst]
  | .smod32Reg dst src => [dst, src]
  | .smod64Imm dst _ => [dst]
  | .smod64Reg dst src => [dst, src]
  | .xor32Imm dst _ => [dst]
  | .xor32Reg dst src => [dst, src]
  | .xor64Imm dst _ => [dst]
  | .xor64Reg dst src => [dst, src]
  | .mov32Imm dst _ => [dst]
  | .mov32Reg dst src => [dst, src]
  | .mov64Imm dst _ => [dst]
  | .mov64Reg dst src => [dst, src]
  | .movsx8To32 dst src => [dst, src]
  | .movsx16To32 dst src => [dst, src]
  | .movsx8To64 dst src => [dst, src]
  | .movsx16To64 dst src => [dst, src]
  | .movsx32To64 dst src => [dst, src]
  | .arsh32Imm dst _ => [dst]
  | .arsh32Reg dst src => [dst, src]
  | .arsh64Imm dst _ => [dst]
  | .arsh64Reg dst src => [dst, src]
  | .le16 dst => [dst]
  | .le32 dst => [dst]
  | .le64 dst => [dst]
  | .be16 dst => [dst]
  | .be32 dst => [dst]
  | .be64 dst => [dst]
  | .bswap16 dst => [dst]
  | .bswap32 dst => [dst]
  | .bswap64 dst => [dst]
  | .ja _ => []
  | .ja32 _ => []
  | .jeqImm dst _ _ => [dst]
  | .jeqReg dst src _ => [dst, src]
  | .jeq32Imm dst _ _ => [dst]
  | .jeq32Reg dst src _ => [dst, src]
  | .jgtImm dst _ _ => [dst]
  | .jgtReg dst src _ => [dst, src]
  | .jgt32Imm dst _ _ => [dst]
  | .jgt32Reg dst src _ => [dst, src]
  | .jgeImm dst _ _ => [dst]
  | .jgeReg dst src _ => [dst, src]
  | .jge32Imm dst _ _ => [dst]
  | .jge32Reg dst src _ => [dst, src]
  | .jsetImm dst _ _ => [dst]
  | .jsetReg dst src _ => [dst, src]
  | .jset32Imm dst _ _ => [dst]
  | .jset32Reg dst src _ => [dst, src]
  | .jneImm dst _ _ => [dst]
  | .jneReg dst src _ => [dst, src]
  | .jne32Imm dst _ _ => [dst]
  | .jne32Reg dst src _ => [dst, src]
  | .jsgtImm dst _ _ => [dst]
  | .jsgtReg dst src _ => [dst, src]
  | .jsgt32Imm dst _ _ => [dst]
  | .jsgt32Reg dst src _ => [dst, src]
  | .jsgeImm dst _ _ => [dst]
  | .jsgeReg dst src _ => [dst, src]
  | .jsge32Imm dst _ _ => [dst]
  | .jsge32Reg dst src _ => [dst, src]
  | .jltImm dst _ _ => [dst]
  | .jltReg dst src _ => [dst, src]
  | .jlt32Imm dst _ _ => [dst]
  | .jlt32Reg dst src _ => [dst, src]
  | .jleImm dst _ _ => [dst]
  | .jleReg dst src _ => [dst, src]
  | .jle32Imm dst _ _ => [dst]
  | .jle32Reg dst src _ => [dst, src]
  | .jsltImm dst _ _ => [dst]
  | .jsltReg dst src _ => [dst, src]
  | .jslt32Imm dst _ _ => [dst]
  | .jslt32Reg dst src _ => [dst, src]
  | .jsleImm dst _ _ => [dst]
  | .jsleReg dst src _ => [dst, src]
  | .jsle32Imm dst _ _ => [dst]
  | .jsle32Reg dst src _ => [dst, src]
  | .callHelper _ => []
  | .callLocal _ => []
  | .callBtf _ => []
  | .exit => []
  | .stxb dst src _ => [dst, src]
  | .stxh dst src _ => [dst, src]
  | .stxw dst src _ => [dst, src]
  | .stxdw dst src _ => [dst, src]
  | .stb dst _ _ => [dst]
  | .sth dst _ _ => [dst]
  | .stw dst _ _ => [dst]
  | .stdw dst _ _ => [dst]
  | .ldxb dst src _ => [dst, src]
  | .ldxh dst src _ => [dst, src]
  | .ldxw dst src _ => [dst, src]
  | .ldxdw dst src _ => [dst, src]
  | .ldxsb dst src _ => [dst, src]
  | .ldxsh dst src _ => [dst, src]
  | .ldxsw dst src _ => [dst, src]
  | .atomicAdd32 dst src _ => [dst, src]
  | .atomicFetchAdd32 dst src _ => [dst, src]
  | .atomicOr32 dst src _ => [dst, src]
  | .atomicFetchOr32 dst src _ => [dst, src]
  | .atomicAnd32 dst src _ => [dst, src]
  | .atomicFetchAnd32 dst src _ => [dst, src]
  | .atomicXor32 dst src _ => [dst, src]
  | .atomicFetchXor32 dst src _ => [dst, src]
  | .atomicXchg32 dst src _ => [dst, src]
  | .atomicCmpxchg32 dst src _ => [dst, src]
  | .atomicAdd64 dst src _ => [dst, src]
  | .atomicFetchAdd64 dst src _ => [dst, src]
  | .atomicOr64 dst src _ => [dst, src]
  | .atomicFetchOr64 dst src _ => [dst, src]
  | .atomicAnd64 dst src _ => [dst, src]
  | .atomicFetchAnd64 dst src _ => [dst, src]
  | .atomicXor64 dst src _ => [dst, src]
  | .atomicFetchXor64 dst src _ => [dst, src]
  | .atomicXchg64 dst src _ => [dst, src]
  | .atomicCmpxchg64 dst src _ => [dst, src]
  | .lddw dst _ _ => [dst]
  | .ldMapFd dst _ => [dst]
  | .ldMapValueFd dst _ _ => [dst]
  | .ldVarAddr dst _ => [dst]
  | .ldCodeAddr dst _ => [dst]
  | .ldMapIdx dst _ => [dst]
  | .ldMapValueIdx dst _ _ => [dst]
  | .ldabsw _ _ _ _ => []
  | .ldabsh _ _ _ _ => []
  | .ldabsb _ _ _ _ => []
  | .ldindw _ _ _ _ => []
  | .ldindh _ _ _ _ => []
  | .ldindb _ _ _ _ => []

/-- A well-formed instruction: one that an encoding of the spec can stand for. -/
def Instr.wf (i : Instr) : Bool := i.regs.all Reg.valid

end Sys2Proof
end

