-- ==== Sys2Proof/Decode.lean ====
section
/-! DEFINITION. From slots of program text to instructions and back (spec 30_encoding.md R60 to R84): the fields of a
slot, the total decoder, the encoder, and the host's view of a table word. -/

namespace Sys2Proof

/-- The five fields of a slot (30_encoding.md R61; 00_scope.md R16). -/
structure Fields where
  opcode : BitVec 8
  dst : BitVec 4
  src : BitVec 4
  off : BitVec 16
  imm : BitVec 32
deriving DecidableEq, Repr

/-- Why a slot is no instruction (30_encoding.md R77, R84). Every one of them is the fault `IllegalInstruction` of the
step that fetches the slot (60_exceptions.md R402). -/
inductive DecodeError where
  /-- There is no slot to decode. -/
  | noSlot
  /-- The opcode byte is one of the 131 of 30_encoding.md R80. -/
  | unknownOpcode
  /-- The selector field (offset, imm or src_reg) selects no row. -/
  | badSelector
  /-- A field the format marks "0" is not zero. -/
  | unusedField
  /-- A register field holds 11 to 15. -/
  | badRegister
  /-- The second slot of a wide instruction is missing. -/
  | missingSecondSlot
  /-- The opcode, regs or offset of the second slot, or an unused next_imm, is not zero. -/
  | badSecondSlot
deriving DecidableEq, Repr

/-- The fields of a slot in the platform's byte order (30_encoding.md R61, R62, R63). -/
def Slot.fields (e : Endian) (s : Slot) : Fields :=
  match e with
  | .little =>
    { opcode := s.b0, dst := s.b1.extractLsb' 0 4, src := s.b1.extractLsb' 4 4, off := s.b3 ++ s.b2,
      imm := s.b7 ++ s.b6 ++ s.b5 ++ s.b4 }
  | .big =>
    { opcode := s.b0, dst := s.b1.extractLsb' 4 4, src := s.b1.extractLsb' 0 4, off := s.b2 ++ s.b3,
      imm := s.b4 ++ s.b5 ++ s.b6 ++ s.b7 }

/-- The slot that holds the fields in the platform's byte order (30_encoding.md R61, R62, R63). -/
def Fields.slot (e : Endian) (f : Fields) : Slot :=
  match e with
  | .little =>
    { b0 := f.opcode, b1 := f.src ++ f.dst,
      b2 := f.off.extractLsb' 0 8, b3 := f.off.extractLsb' 8 8,
      b4 := f.imm.extractLsb' 0 8, b5 := f.imm.extractLsb' 8 8,
      b6 := f.imm.extractLsb' 16 8, b7 := f.imm.extractLsb' 24 8 }
  | .big =>
    { b0 := f.opcode, b1 := f.dst ++ f.src,
      b2 := f.off.extractLsb' 8 8, b3 := f.off.extractLsb' 0 8,
      b4 := f.imm.extractLsb' 24 8, b5 := f.imm.extractLsb' 16 8,
      b6 := f.imm.extractLsb' 8 8, b7 := f.imm.extractLsb' 0 8 }

/-- The fields of a canonical word C, the numbering of spec/opcode_table.json (30_encoding.md R64). -/
def Fields.ofWord (c : Word) : Fields :=
  { opcode := c.extractLsb' 0 8, dst := c.extractLsb' 8 4, src := c.extractLsb' 12 4, off := c.extractLsb' 16 16,
    imm := c.extractLsb' 32 32 }

/-- The slots of a string of bytes in increasing address order; an incomplete last slot is no slot. -/
def slotsOfBytes : List Byte → List Slot
  | b0 :: b1 :: b2 :: b3 :: b4 :: b5 :: b6 :: b7 :: rest => ⟨b0, b1, b2, b3, b4, b5, b6, b7⟩ :: slotsOfBytes rest
  | _ => []

/-- Steps 5 and 6 of 30_encoding.md R84: the unused fields are zero, then the register fields name registers. -/
def fieldError? (unusedZero : Bool) (regs : List Reg) : Option DecodeError :=
  if !unusedZero then some .unusedField
  else if regs.all Reg.valid then none
  else some .badRegister

/-- The instruction, if its fields pass steps 5 and 6 of 30_encoding.md R84. -/
def accept (unusedZero : Bool) (regs : List Reg) (i : Instr) : Except DecodeError Instr :=
  match fieldError? unusedZero regs with
  | some x => .error x
  | none => .ok i

/-- Step 4 of 30_encoding.md R84: the row that the selector field selects. -/
def select {α : Type} (sel : Nat) (rows : List (Nat × α)) (k : α → Except DecodeError Instr) : Except DecodeError Instr :=
  match rows.lookup sel with
  | some row => k row
  | none => .error .badSelector

/-- Format `ALU_K`; the offset selects (30_encoding.md R72, R73). -/
def decodeAluK (f : Fields) (rows : List (Nat × (Reg → BitVec 32 → Instr))) : Except DecodeError Instr :=
  select f.off.toNat rows fun mk => accept (f.src == 0) [f.dst] (mk f.dst f.imm)

/-- Format `ALU_X`; the offset selects (30_encoding.md R72, R73). -/
def decodeAluX (f : Fields) (rows : List (Nat × (Reg → Reg → Instr))) : Except DecodeError Instr :=
  select f.off.toNat rows fun mk => accept (f.imm == 0) [f.dst, f.src] (mk f.dst f.src)

/-- Format `ALU_NEG` (30_encoding.md R72). -/
def decodeNeg (f : Fields) (mk : Reg → Instr) : Except DecodeError Instr :=
  accept (f.src == 0 && f.off == 0 && f.imm == 0) [f.dst] (mk f.dst)

/-- Format `ALU_END`; imm, the width, selects (30_encoding.md R72; 41_byteswap.md R201). -/
def decodeEnd (f : Fields) (rows : List (Nat × (Reg → Instr))) : Except DecodeError Instr :=
  select f.imm.toNat rows fun mk => accept (f.src == 0 && f.off == 0) [f.dst] (mk f.dst)

/-- Format `JA16` (30_encoding.md R72). -/
def decodeJa16 (f : Fields) (mk : BitVec 16 → Instr) : Except DecodeError Instr :=
  accept (f.dst == 0 && f.src == 0 && f.imm == 0) [] (mk f.off)

/-- Format `JA32` (30_encoding.md R72). -/
def decodeJa32 (f : Fields) (mk : BitVec 32 → Instr) : Except DecodeError Instr :=
  accept (f.dst == 0 && f.src == 0 && f.off == 0) [] (mk f.imm)

/-- Formats `JCC_K` and `ST`: a register, the offset and imm (30_encoding.md R72). -/
def decodeRegOffImm (f : Fields) (mk : Reg → BitVec 16 → BitVec 32 → Instr) : Except DecodeError Instr :=
  accept (f.src == 0) [f.dst] (mk f.dst f.off f.imm)

/-- Formats `JCC_X`, `LDX` and `STX`: two registers and the offset (30_encoding.md R72). -/
def decodeRegRegOff (f : Fields) (mk : Reg → Reg → BitVec 16 → Instr) : Except DecodeError Instr :=
  accept (f.imm == 0) [f.dst, f.src] (mk f.dst f.src f.off)

/-- Format `CALL`; src_reg selects and is no register (30_encoding.md R72). -/
def decodeCall (f : Fields) (rows : List (Nat × (BitVec 32 → Instr))) : Except DecodeError Instr :=
  select f.src.toNat rows fun mk => accept (f.dst == 0 && f.off == 0) [] (mk f.imm)

/-- Format `EXIT` (30_encoding.md R72). -/
def decodeExit (f : Fields) (i : Instr) : Except DecodeError Instr :=
  accept (f.dst == 0 && f.src == 0 && f.off == 0 && f.imm == 0) [] i

/-- Format `ATOMIC`; imm, all 32 bits, selects (30_encoding.md R72; 44_atomic.md R331). -/
def decodeAtomic (f : Fields) (rows : List (Nat × (Reg → Reg → BitVec 16 → Instr))) : Except DecodeError Instr :=
  select f.imm.toNat rows fun mk => accept true [f.dst, f.src] (mk f.dst f.src f.off)

/-- The instructions of format `LDDW`: those that use `next_imm` and those for which it is unused and zero
(45_imm64.md R373). -/
inductive WideRow where
  | usesNext (mk : Reg → BitVec 32 → BitVec 32 → Instr)
  | unusedNext (mk : Reg → BitVec 32 → Instr)

/-- Step 7 of 30_encoding.md R84: the second slot exists, its opcode, regs and offset are zero (R67), and so is
`next_imm` where the instruction does not use it. -/
def acceptSecond (second : Option Fields) (mustBeZero : Bool) (k : BitVec 32 → Instr) : Except DecodeError Instr :=
  match second with
  | none => .error .missingSecondSlot
  | some g =>
    if g.opcode == 0 && g.dst == 0 && g.src == 0 && g.off == 0 && (!mustBeZero || g.imm == 0) then .ok (k g.imm)
    else .error .badSecondSlot

/-- Format `LDDW`; src_reg selects and is no register (30_encoding.md R72; 45_imm64.md R370). -/
def decodeWide (f : Fields) (second : Option Fields) (rows : List (Nat × WideRow)) : Except DecodeError Instr :=
  select f.src.toNat rows fun row =>
    match fieldError? (f.off == 0) [f.dst] with
    | some x => .error x
    | none =>
      match row with
      | .usesNext mk => acceptSecond second false (mk f.dst f.imm)
      | .unusedNext mk => acceptSecond second true fun _ => mk f.dst f.imm

/-- The instruction that the fields of a slot stand for; `second` is the slot after it, read by opcode 0x18 only.
The opcode map of 30_encoding.md R78, in the order of R84. -/
def decodeFields (f : Fields) (second : Option Fields) : Except DecodeError Instr :=
  match f.opcode.toNat with
  | 0x04 => decodeAluK f [(0, .add32Imm)]
  | 0x05 => decodeJa16 f .ja
  | 0x06 => decodeJa32 f .ja32
  | 0x07 => decodeAluK f [(0, .add64Imm)]
  | 0x0c => decodeAluX f [(0, .add32Reg)]
  | 0x0f => decodeAluX f [(0, .add64Reg)]
  | 0x14 => decodeAluK f [(0, .sub32Imm)]
  | 0x15 => decodeRegOffImm f .jeqImm
  | 0x16 => decodeRegOffImm f .jeq32Imm
  | 0x17 => decodeAluK f [(0, .sub64Imm)]
  | 0x18 => decodeWide f second
      [(0, .usesNext .lddw), (1, .unusedNext .ldMapFd), (2, .usesNext .ldMapValueFd),
       (3, .unusedNext .ldVarAddr), (4, .unusedNext .ldCodeAddr), (5, .unusedNext .ldMapIdx),
       (6, .usesNext .ldMapValueIdx)]
  | 0x1c => decodeAluX f [(0, .sub32Reg)]
  | 0x1d => decodeRegRegOff f .jeqReg
  | 0x1e => decodeRegRegOff f .jeq32Reg
  | 0x1f => decodeAluX f [(0, .sub64Reg)]
  | 0x20 => .ok (.ldabsw f.dst f.src f.off f.imm)
  | 0x24 => decodeAluK f [(0, .mul32Imm)]
  | 0x25 => decodeRegOffImm f .jgtImm
  | 0x26 => decodeRegOffImm f .jgt32Imm
  | 0x27 => decodeAluK f [(0, .mul64Imm)]
  | 0x28 => .ok (.ldabsh f.dst f.src f.off f.imm)
  | 0x2c => decodeAluX f [(0, .mul32Reg)]
  | 0x2d => decodeRegRegOff f .jgtReg
  | 0x2e => decodeRegRegOff f .jgt32Reg
  | 0x2f => decodeAluX f [(0, .mul64Reg)]
  | 0x30 => .ok (.ldabsb f.dst f.src f.off f.imm)
  | 0x34 => decodeAluK f [(0, .div32Imm), (1, .sdiv32Imm)]
  | 0x35 => decodeRegOffImm f .jgeImm
  | 0x36 => decodeRegOffImm f .jge32Imm
  | 0x37 => decodeAluK f [(0, .div64Imm), (1, .sdiv64Imm)]
  | 0x3c => decodeAluX f [(0, .div32Reg), (1, .sdiv32Reg)]
  | 0x3d => decodeRegRegOff f .jgeReg
  | 0x3e => decodeRegRegOff f .jge32Reg
  | 0x3f => decodeAluX f [(0, .div64Reg), (1, .sdiv64Reg)]
  | 0x40 => .ok (.ldindw f.dst f.src f.off f.imm)
  | 0x44 => decodeAluK f [(0, .or32Imm)]
  | 0x45 => decodeRegOffImm f .jsetImm
  | 0x46 => decodeRegOffImm f .jset32Imm
  | 0x47 => decodeAluK f [(0, .or64Imm)]
  | 0x48 => .ok (.ldindh f.dst f.src f.off f.imm)
  | 0x4c => decodeAluX f [(0, .or32Reg)]
  | 0x4d => decodeRegRegOff f .jsetReg
  | 0x4e => decodeRegRegOff f .jset32Reg
  | 0x4f => decodeAluX f [(0, .or64Reg)]
  | 0x50 => .ok (.ldindb f.dst f.src f.off f.imm)
  | 0x54 => decodeAluK f [(0, .and32Imm)]
  | 0x55 => decodeRegOffImm f .jneImm
  | 0x56 => decodeRegOffImm f .jne32Imm
  | 0x57 => decodeAluK f [(0, .and64Imm)]
  | 0x5c => decodeAluX f [(0, .and32Reg)]
  | 0x5d => decodeRegRegOff f .jneReg
  | 0x5e => decodeRegRegOff f .jne32Reg
  | 0x5f => decodeAluX f [(0, .and64Reg)]
  | 0x61 => decodeRegRegOff f .ldxw
  | 0x62 => decodeRegOffImm f .stw
  | 0x63 => decodeRegRegOff f .stxw
  | 0x64 => decodeAluK f [(0, .lsh32Imm)]
  | 0x65 => decodeRegOffImm f .jsgtImm
  | 0x66 => decodeRegOffImm f .jsgt32Imm
  | 0x67 => decodeAluK f [(0, .lsh64Imm)]
  | 0x69 => decodeRegRegOff f .ldxh
  | 0x6a => decodeRegOffImm f .sth
  | 0x6b => decodeRegRegOff f .stxh
  | 0x6c => decodeAluX f [(0, .lsh32Reg)]
  | 0x6d => decodeRegRegOff f .jsgtReg
  | 0x6e => decodeRegRegOff f .jsgt32Reg
  | 0x6f => decodeAluX f [(0, .lsh64Reg)]
  | 0x71 => decodeRegRegOff f .ldxb
  | 0x72 => decodeRegOffImm f .stb
  | 0x73 => decodeRegRegOff f .stxb
  | 0x74 => decodeAluK f [(0, .rsh32Imm)]
  | 0x75 => decodeRegOffImm f .jsgeImm
  | 0x76 => decodeRegOffImm f .jsge32Imm
  | 0x77 => decodeAluK f [(0, .rsh64Imm)]
  | 0x79 => decodeRegRegOff f .ldxdw
  | 0x7a => decodeRegOffImm f .stdw
  | 0x7b => decodeRegRegOff f .stxdw
  | 0x7c => decodeAluX f [(0, .rsh32Reg)]
  | 0x7d => decodeRegRegOff f .jsgeReg
  | 0x7e => decodeRegRegOff f .jsge32Reg
  | 0x7f => decodeAluX f [(0, .rsh64Reg)]
  | 0x81 => decodeRegRegOff f .ldxsw
  | 0x84 => decodeNeg f .neg32
  | 0x85 => decodeCall f [(0, .callHelper), (1, .callLocal), (2, .callBtf)]
  | 0x87 => decodeNeg f .neg64
  | 0x89 => decodeRegRegOff f .ldxsh
  | 0x91 => decodeRegRegOff f .ldxsb
  | 0x94 => decodeAluK f [(0, .mod32Imm), (1, .smod32Imm)]
  | 0x95 => decodeExit f .exit
  | 0x97 => decodeAluK f [(0, .mod64Imm), (1, .smod64Imm)]
  | 0x9c => decodeAluX f [(0, .mod32Reg), (1, .smod32Reg)]
  | 0x9f => decodeAluX f [(0, .mod64Reg), (1, .smod64Reg)]
  | 0xa4 => decodeAluK f [(0, .xor32Imm)]
  | 0xa5 => decodeRegOffImm f .jltImm
  | 0xa6 => decodeRegOffImm f .jlt32Imm
  | 0xa7 => decodeAluK f [(0, .xor64Imm)]
  | 0xac => decodeAluX f [(0, .xor32Reg)]
  | 0xad => decodeRegRegOff f .jltReg
  | 0xae => decodeRegRegOff f .jlt32Reg
  | 0xaf => decodeAluX f [(0, .xor64Reg)]
  | 0xb4 => decodeAluK f [(0, .mov32Imm)]
  | 0xb5 => decodeRegOffImm f .jleImm
  | 0xb6 => decodeRegOffImm f .jle32Imm
  | 0xb7 => decodeAluK f [(0, .mov64Imm)]
  | 0xbc => decodeAluX f [(0, .mov32Reg), (8, .movsx8To32), (16, .movsx16To32)]
  | 0xbd => decodeRegRegOff f .jleReg
  | 0xbe => decodeRegRegOff f .jle32Reg
  | 0xbf => decodeAluX f [(0, .mov64Reg), (8, .movsx8To64), (16, .movsx16To64), (32, .movsx32To64)]
  | 0xc3 => decodeAtomic f
      [(0x0, .atomicAdd32), (0x1, .atomicFetchAdd32), (0x40, .atomicOr32),
       (0x41, .atomicFetchOr32), (0x50, .atomicAnd32), (0x51, .atomicFetchAnd32),
       (0xa0, .atomicXor32), (0xa1, .atomicFetchXor32), (0xe1, .atomicXchg32),
       (0xf1, .atomicCmpxchg32)]
  | 0xc4 => decodeAluK f [(0, .arsh32Imm)]
  | 0xc5 => decodeRegOffImm f .jsltImm
  | 0xc6 => decodeRegOffImm f .jslt32Imm
  | 0xc7 => decodeAluK f [(0, .arsh64Imm)]
  | 0xcc => decodeAluX f [(0, .arsh32Reg)]
  | 0xcd => decodeRegRegOff f .jsltReg
  | 0xce => decodeRegRegOff f .jslt32Reg
  | 0xcf => decodeAluX f [(0, .arsh64Reg)]
  | 0xd4 => decodeEnd f [(16, .le16), (32, .le32), (64, .le64)]
  | 0xd5 => decodeRegOffImm f .jsleImm
  | 0xd6 => decodeRegOffImm f .jsle32Imm
  | 0xd7 => decodeEnd f [(16, .bswap16), (32, .bswap32), (64, .bswap64)]
  | 0xdb => decodeAtomic f
      [(0x0, .atomicAdd64), (0x1, .atomicFetchAdd64), (0x40, .atomicOr64),
       (0x41, .atomicFetchOr64), (0x50, .atomicAnd64), (0x51, .atomicFetchAnd64),
       (0xa0, .atomicXor64), (0xa1, .atomicFetchXor64), (0xe1, .atomicXchg64),
       (0xf1, .atomicCmpxchg64)]
  | 0xdc => decodeEnd f [(16, .be16), (32, .be32), (64, .be64)]
  | 0xdd => decodeRegRegOff f .jsleReg
  | 0xde => decodeRegRegOff f .jsle32Reg
  | _ => .error .unknownOpcode

/-- Decode the instruction at the head of a list of slots and give the slots after it. Total: every list of slots is
an instruction or an error by name (30_encoding.md R79, R84). -/
def decode (e : Endian) : List Slot → Except DecodeError (Instr × List Slot)
  | [] => .error .noSlot
  | s :: rest =>
    match decodeFields (s.fields e) (rest.head?.map (Slot.fields e)) with
    | .error x => .error x
    | .ok i => .ok (i, rest.drop (i.slots - 1))

/-- `decode` from a string of bytes in increasing address order. -/
def decodeBytes (e : Endian) (bs : List Byte) : Except DecodeError (Instr × List Slot) :=
  decode e (slotsOfBytes bs)

/-- The fields of an instruction's first slot: its operands, its selector, zeros elsewhere (30_encoding.md R66, R72,
R73, R78). -/
def Instr.fields : Instr → Fields
  | .add32Imm dst imm => ⟨0x04, dst, 0, 0, imm⟩
  | .add32Reg dst src => ⟨0x0c, dst, src, 0, 0⟩
  | .add64Imm dst imm => ⟨0x07, dst, 0, 0, imm⟩
  | .add64Reg dst src => ⟨0x0f, dst, src, 0, 0⟩
  | .sub32Imm dst imm => ⟨0x14, dst, 0, 0, imm⟩
  | .sub32Reg dst src => ⟨0x1c, dst, src, 0, 0⟩
  | .sub64Imm dst imm => ⟨0x17, dst, 0, 0, imm⟩
  | .sub64Reg dst src => ⟨0x1f, dst, src, 0, 0⟩
  | .mul32Imm dst imm => ⟨0x24, dst, 0, 0, imm⟩
  | .mul32Reg dst src => ⟨0x2c, dst, src, 0, 0⟩
  | .mul64Imm dst imm => ⟨0x27, dst, 0, 0, imm⟩
  | .mul64Reg dst src => ⟨0x2f, dst, src, 0, 0⟩
  | .div32Imm dst imm => ⟨0x34, dst, 0, 0, imm⟩
  | .div32Reg dst src => ⟨0x3c, dst, src, 0, 0⟩
  | .div64Imm dst imm => ⟨0x37, dst, 0, 0, imm⟩
  | .div64Reg dst src => ⟨0x3f, dst, src, 0, 0⟩
  | .sdiv32Imm dst imm => ⟨0x34, dst, 0, 1, imm⟩
  | .sdiv32Reg dst src => ⟨0x3c, dst, src, 1, 0⟩
  | .sdiv64Imm dst imm => ⟨0x37, dst, 0, 1, imm⟩
  | .sdiv64Reg dst src => ⟨0x3f, dst, src, 1, 0⟩
  | .or32Imm dst imm => ⟨0x44, dst, 0, 0, imm⟩
  | .or32Reg dst src => ⟨0x4c, dst, src, 0, 0⟩
  | .or64Imm dst imm => ⟨0x47, dst, 0, 0, imm⟩
  | .or64Reg dst src => ⟨0x4f, dst, src, 0, 0⟩
  | .and32Imm dst imm => ⟨0x54, dst, 0, 0, imm⟩
  | .and32Reg dst src => ⟨0x5c, dst, src, 0, 0⟩
  | .and64Imm dst imm => ⟨0x57, dst, 0, 0, imm⟩
  | .and64Reg dst src => ⟨0x5f, dst, src, 0, 0⟩
  | .lsh32Imm dst imm => ⟨0x64, dst, 0, 0, imm⟩
  | .lsh32Reg dst src => ⟨0x6c, dst, src, 0, 0⟩
  | .lsh64Imm dst imm => ⟨0x67, dst, 0, 0, imm⟩
  | .lsh64Reg dst src => ⟨0x6f, dst, src, 0, 0⟩
  | .rsh32Imm dst imm => ⟨0x74, dst, 0, 0, imm⟩
  | .rsh32Reg dst src => ⟨0x7c, dst, src, 0, 0⟩
  | .rsh64Imm dst imm => ⟨0x77, dst, 0, 0, imm⟩
  | .rsh64Reg dst src => ⟨0x7f, dst, src, 0, 0⟩
  | .neg32 dst => ⟨0x84, dst, 0, 0, 0⟩
  | .neg64 dst => ⟨0x87, dst, 0, 0, 0⟩
  | .mod32Imm dst imm => ⟨0x94, dst, 0, 0, imm⟩
  | .mod32Reg dst src => ⟨0x9c, dst, src, 0, 0⟩
  | .mod64Imm dst imm => ⟨0x97, dst, 0, 0, imm⟩
  | .mod64Reg dst src => ⟨0x9f, dst, src, 0, 0⟩
  | .smod32Imm dst imm => ⟨0x94, dst, 0, 1, imm⟩
  | .smod32Reg dst src => ⟨0x9c, dst, src, 1, 0⟩
  | .smod64Imm dst imm => ⟨0x97, dst, 0, 1, imm⟩
  | .smod64Reg dst src => ⟨0x9f, dst, src, 1, 0⟩
  | .xor32Imm dst imm => ⟨0xa4, dst, 0, 0, imm⟩
  | .xor32Reg dst src => ⟨0xac, dst, src, 0, 0⟩
  | .xor64Imm dst imm => ⟨0xa7, dst, 0, 0, imm⟩
  | .xor64Reg dst src => ⟨0xaf, dst, src, 0, 0⟩
  | .mov32Imm dst imm => ⟨0xb4, dst, 0, 0, imm⟩
  | .mov32Reg dst src => ⟨0xbc, dst, src, 0, 0⟩
  | .mov64Imm dst imm => ⟨0xb7, dst, 0, 0, imm⟩
  | .mov64Reg dst src => ⟨0xbf, dst, src, 0, 0⟩
  | .movsx8To32 dst src => ⟨0xbc, dst, src, 8, 0⟩
  | .movsx16To32 dst src => ⟨0xbc, dst, src, 16, 0⟩
  | .movsx8To64 dst src => ⟨0xbf, dst, src, 8, 0⟩
  | .movsx16To64 dst src => ⟨0xbf, dst, src, 16, 0⟩
  | .movsx32To64 dst src => ⟨0xbf, dst, src, 32, 0⟩
  | .arsh32Imm dst imm => ⟨0xc4, dst, 0, 0, imm⟩
  | .arsh32Reg dst src => ⟨0xcc, dst, src, 0, 0⟩
  | .arsh64Imm dst imm => ⟨0xc7, dst, 0, 0, imm⟩
  | .arsh64Reg dst src => ⟨0xcf, dst, src, 0, 0⟩
  | .le16 dst => ⟨0xd4, dst, 0, 0, 16⟩
  | .le32 dst => ⟨0xd4, dst, 0, 0, 32⟩
  | .le64 dst => ⟨0xd4, dst, 0, 0, 64⟩
  | .be16 dst => ⟨0xdc, dst, 0, 0, 16⟩
  | .be32 dst => ⟨0xdc, dst, 0, 0, 32⟩
  | .be64 dst => ⟨0xdc, dst, 0, 0, 64⟩
  | .bswap16 dst => ⟨0xd7, dst, 0, 0, 16⟩
  | .bswap32 dst => ⟨0xd7, dst, 0, 0, 32⟩
  | .bswap64 dst => ⟨0xd7, dst, 0, 0, 64⟩
  | .ja off => ⟨0x05, 0, 0, off, 0⟩
  | .ja32 imm => ⟨0x06, 0, 0, 0, imm⟩
  | .jeqImm dst off imm => ⟨0x15, dst, 0, off, imm⟩
  | .jeqReg dst src off => ⟨0x1d, dst, src, off, 0⟩
  | .jeq32Imm dst off imm => ⟨0x16, dst, 0, off, imm⟩
  | .jeq32Reg dst src off => ⟨0x1e, dst, src, off, 0⟩
  | .jgtImm dst off imm => ⟨0x25, dst, 0, off, imm⟩
  | .jgtReg dst src off => ⟨0x2d, dst, src, off, 0⟩
  | .jgt32Imm dst off imm => ⟨0x26, dst, 0, off, imm⟩
  | .jgt32Reg dst src off => ⟨0x2e, dst, src, off, 0⟩
  | .jgeImm dst off imm => ⟨0x35, dst, 0, off, imm⟩
  | .jgeReg dst src off => ⟨0x3d, dst, src, off, 0⟩
  | .jge32Imm dst off imm => ⟨0x36, dst, 0, off, imm⟩
  | .jge32Reg dst src off => ⟨0x3e, dst, src, off, 0⟩
  | .jsetImm dst off imm => ⟨0x45, dst, 0, off, imm⟩
  | .jsetReg dst src off => ⟨0x4d, dst, src, off, 0⟩
  | .jset32Imm dst off imm => ⟨0x46, dst, 0, off, imm⟩
  | .jset32Reg dst src off => ⟨0x4e, dst, src, off, 0⟩
  | .jneImm dst off imm => ⟨0x55, dst, 0, off, imm⟩
  | .jneReg dst src off => ⟨0x5d, dst, src, off, 0⟩
  | .jne32Imm dst off imm => ⟨0x56, dst, 0, off, imm⟩
  | .jne32Reg dst src off => ⟨0x5e, dst, src, off, 0⟩
  | .jsgtImm dst off imm => ⟨0x65, dst, 0, off, imm⟩
  | .jsgtReg dst src off => ⟨0x6d, dst, src, off, 0⟩
  | .jsgt32Imm dst off imm => ⟨0x66, dst, 0, off, imm⟩
  | .jsgt32Reg dst src off => ⟨0x6e, dst, src, off, 0⟩
  | .jsgeImm dst off imm => ⟨0x75, dst, 0, off, imm⟩
  | .jsgeReg dst src off => ⟨0x7d, dst, src, off, 0⟩
  | .jsge32Imm dst off imm => ⟨0x76, dst, 0, off, imm⟩
  | .jsge32Reg dst src off => ⟨0x7e, dst, src, off, 0⟩
  | .jltImm dst off imm => ⟨0xa5, dst, 0, off, imm⟩
  | .jltReg dst src off => ⟨0xad, dst, src, off, 0⟩
  | .jlt32Imm dst off imm => ⟨0xa6, dst, 0, off, imm⟩
  | .jlt32Reg dst src off => ⟨0xae, dst, src, off, 0⟩
  | .jleImm dst off imm => ⟨0xb5, dst, 0, off, imm⟩
  | .jleReg dst src off => ⟨0xbd, dst, src, off, 0⟩
  | .jle32Imm dst off imm => ⟨0xb6, dst, 0, off, imm⟩
  | .jle32Reg dst src off => ⟨0xbe, dst, src, off, 0⟩
  | .jsltImm dst off imm => ⟨0xc5, dst, 0, off, imm⟩
  | .jsltReg dst src off => ⟨0xcd, dst, src, off, 0⟩
  | .jslt32Imm dst off imm => ⟨0xc6, dst, 0, off, imm⟩
  | .jslt32Reg dst src off => ⟨0xce, dst, src, off, 0⟩
  | .jsleImm dst off imm => ⟨0xd5, dst, 0, off, imm⟩
  | .jsleReg dst src off => ⟨0xdd, dst, src, off, 0⟩
  | .jsle32Imm dst off imm => ⟨0xd6, dst, 0, off, imm⟩
  | .jsle32Reg dst src off => ⟨0xde, dst, src, off, 0⟩
  | .callHelper imm => ⟨0x85, 0, 0, 0, imm⟩
  | .callLocal imm => ⟨0x85, 0, 1, 0, imm⟩
  | .callBtf imm => ⟨0x85, 0, 2, 0, imm⟩
  | .exit => ⟨0x95, 0, 0, 0, 0⟩
  | .stxb dst src off => ⟨0x73, dst, src, off, 0⟩
  | .stxh dst src off => ⟨0x6b, dst, src, off, 0⟩
  | .stxw dst src off => ⟨0x63, dst, src, off, 0⟩
  | .stxdw dst src off => ⟨0x7b, dst, src, off, 0⟩
  | .stb dst off imm => ⟨0x72, dst, 0, off, imm⟩
  | .sth dst off imm => ⟨0x6a, dst, 0, off, imm⟩
  | .stw dst off imm => ⟨0x62, dst, 0, off, imm⟩
  | .stdw dst off imm => ⟨0x7a, dst, 0, off, imm⟩
  | .ldxb dst src off => ⟨0x71, dst, src, off, 0⟩
  | .ldxh dst src off => ⟨0x69, dst, src, off, 0⟩
  | .ldxw dst src off => ⟨0x61, dst, src, off, 0⟩
  | .ldxdw dst src off => ⟨0x79, dst, src, off, 0⟩
  | .ldxsb dst src off => ⟨0x91, dst, src, off, 0⟩
  | .ldxsh dst src off => ⟨0x89, dst, src, off, 0⟩
  | .ldxsw dst src off => ⟨0x81, dst, src, off, 0⟩
  | .atomicAdd32 dst src off => ⟨0xc3, dst, src, off, 0x0⟩
  | .atomicFetchAdd32 dst src off => ⟨0xc3, dst, src, off, 0x1⟩
  | .atomicOr32 dst src off => ⟨0xc3, dst, src, off, 0x40⟩
  | .atomicFetchOr32 dst src off => ⟨0xc3, dst, src, off, 0x41⟩
  | .atomicAnd32 dst src off => ⟨0xc3, dst, src, off, 0x50⟩
  | .atomicFetchAnd32 dst src off => ⟨0xc3, dst, src, off, 0x51⟩
  | .atomicXor32 dst src off => ⟨0xc3, dst, src, off, 0xa0⟩
  | .atomicFetchXor32 dst src off => ⟨0xc3, dst, src, off, 0xa1⟩
  | .atomicXchg32 dst src off => ⟨0xc3, dst, src, off, 0xe1⟩
  | .atomicCmpxchg32 dst src off => ⟨0xc3, dst, src, off, 0xf1⟩
  | .atomicAdd64 dst src off => ⟨0xdb, dst, src, off, 0x0⟩
  | .atomicFetchAdd64 dst src off => ⟨0xdb, dst, src, off, 0x1⟩
  | .atomicOr64 dst src off => ⟨0xdb, dst, src, off, 0x40⟩
  | .atomicFetchOr64 dst src off => ⟨0xdb, dst, src, off, 0x41⟩
  | .atomicAnd64 dst src off => ⟨0xdb, dst, src, off, 0x50⟩
  | .atomicFetchAnd64 dst src off => ⟨0xdb, dst, src, off, 0x51⟩
  | .atomicXor64 dst src off => ⟨0xdb, dst, src, off, 0xa0⟩
  | .atomicFetchXor64 dst src off => ⟨0xdb, dst, src, off, 0xa1⟩
  | .atomicXchg64 dst src off => ⟨0xdb, dst, src, off, 0xe1⟩
  | .atomicCmpxchg64 dst src off => ⟨0xdb, dst, src, off, 0xf1⟩
  | .lddw dst imm _ => ⟨0x18, dst, 0, 0, imm⟩
  | .ldMapFd dst imm => ⟨0x18, dst, 1, 0, imm⟩
  | .ldMapValueFd dst imm _ => ⟨0x18, dst, 2, 0, imm⟩
  | .ldVarAddr dst imm => ⟨0x18, dst, 3, 0, imm⟩
  | .ldCodeAddr dst imm => ⟨0x18, dst, 4, 0, imm⟩
  | .ldMapIdx dst imm => ⟨0x18, dst, 5, 0, imm⟩
  | .ldMapValueIdx dst imm _ => ⟨0x18, dst, 6, 0, imm⟩
  | .ldabsw dst src off imm => ⟨0x20, dst, src, off, imm⟩
  | .ldabsh dst src off imm => ⟨0x28, dst, src, off, imm⟩
  | .ldabsb dst src off imm => ⟨0x30, dst, src, off, imm⟩
  | .ldindw dst src off imm => ⟨0x40, dst, src, off, imm⟩
  | .ldindh dst src off imm => ⟨0x48, dst, src, off, imm⟩
  | .ldindb dst src off imm => ⟨0x50, dst, src, off, imm⟩

/-- `next_imm`, the imm of the second slot of a wide instruction; none for a basic one (30_encoding.md R67). -/
def Instr.nextImm? : Instr → Option (BitVec 32)
  | .add32Imm _ _ => none
  | .add32Reg _ _ => none
  | .add64Imm _ _ => none
  | .add64Reg _ _ => none
  | .sub32Imm _ _ => none
  | .sub32Reg _ _ => none
  | .sub64Imm _ _ => none
  | .sub64Reg _ _ => none
  | .mul32Imm _ _ => none
  | .mul32Reg _ _ => none
  | .mul64Imm _ _ => none
  | .mul64Reg _ _ => none
  | .div32Imm _ _ => none
  | .div32Reg _ _ => none
  | .div64Imm _ _ => none
  | .div64Reg _ _ => none
  | .sdiv32Imm _ _ => none
  | .sdiv32Reg _ _ => none
  | .sdiv64Imm _ _ => none
  | .sdiv64Reg _ _ => none
  | .or32Imm _ _ => none
  | .or32Reg _ _ => none
  | .or64Imm _ _ => none
  | .or64Reg _ _ => none
  | .and32Imm _ _ => none
  | .and32Reg _ _ => none
  | .and64Imm _ _ => none
  | .and64Reg _ _ => none
  | .lsh32Imm _ _ => none
  | .lsh32Reg _ _ => none
  | .lsh64Imm _ _ => none
  | .lsh64Reg _ _ => none
  | .rsh32Imm _ _ => none
  | .rsh32Reg _ _ => none
  | .rsh64Imm _ _ => none
  | .rsh64Reg _ _ => none
  | .neg32 _ => none
  | .neg64 _ => none
  | .mod32Imm _ _ => none
  | .mod32Reg _ _ => none
  | .mod64Imm _ _ => none
  | .mod64Reg _ _ => none
  | .smod32Imm _ _ => none
  | .smod32Reg _ _ => none
  | .smod64Imm _ _ => none
  | .smod64Reg _ _ => none
  | .xor32Imm _ _ => none
  | .xor32Reg _ _ => none
  | .xor64Imm _ _ => none
  | .xor64Reg _ _ => none
  | .mov32Imm _ _ => none
  | .mov32Reg _ _ => none
  | .mov64Imm _ _ => none
  | .mov64Reg _ _ => none
  | .movsx8To32 _ _ => none
  | .movsx16To32 _ _ => none
  | .movsx8To64 _ _ => none
  | .movsx16To64 _ _ => none
  | .movsx32To64 _ _ => none
  | .arsh32Imm _ _ => none
  | .arsh32Reg _ _ => none
  | .arsh64Imm _ _ => none
  | .arsh64Reg _ _ => none
  | .le16 _ => none
  | .le32 _ => none
  | .le64 _ => none
  | .be16 _ => none
  | .be32 _ => none
  | .be64 _ => none
  | .bswap16 _ => none
  | .bswap32 _ => none
  | .bswap64 _ => none
  | .ja _ => none
  | .ja32 _ => none
  | .jeqImm _ _ _ => none
  | .jeqReg _ _ _ => none
  | .jeq32Imm _ _ _ => none
  | .jeq32Reg _ _ _ => none
  | .jgtImm _ _ _ => none
  | .jgtReg _ _ _ => none
  | .jgt32Imm _ _ _ => none
  | .jgt32Reg _ _ _ => none
  | .jgeImm _ _ _ => none
  | .jgeReg _ _ _ => none
  | .jge32Imm _ _ _ => none
  | .jge32Reg _ _ _ => none
  | .jsetImm _ _ _ => none
  | .jsetReg _ _ _ => none
  | .jset32Imm _ _ _ => none
  | .jset32Reg _ _ _ => none
  | .jneImm _ _ _ => none
  | .jneReg _ _ _ => none
  | .jne32Imm _ _ _ => none
  | .jne32Reg _ _ _ => none
  | .jsgtImm _ _ _ => none
  | .jsgtReg _ _ _ => none
  | .jsgt32Imm _ _ _ => none
  | .jsgt32Reg _ _ _ => none
  | .jsgeImm _ _ _ => none
  | .jsgeReg _ _ _ => none
  | .jsge32Imm _ _ _ => none
  | .jsge32Reg _ _ _ => none
  | .jltImm _ _ _ => none
  | .jltReg _ _ _ => none
  | .jlt32Imm _ _ _ => none
  | .jlt32Reg _ _ _ => none
  | .jleImm _ _ _ => none
  | .jleReg _ _ _ => none
  | .jle32Imm _ _ _ => none
  | .jle32Reg _ _ _ => none
  | .jsltImm _ _ _ => none
  | .jsltReg _ _ _ => none
  | .jslt32Imm _ _ _ => none
  | .jslt32Reg _ _ _ => none
  | .jsleImm _ _ _ => none
  | .jsleReg _ _ _ => none
  | .jsle32Imm _ _ _ => none
  | .jsle32Reg _ _ _ => none
  | .callHelper _ => none
  | .callLocal _ => none
  | .callBtf _ => none
  | .exit => none
  | .stxb _ _ _ => none
  | .stxh _ _ _ => none
  | .stxw _ _ _ => none
  | .stxdw _ _ _ => none
  | .stb _ _ _ => none
  | .sth _ _ _ => none
  | .stw _ _ _ => none
  | .stdw _ _ _ => none
  | .ldxb _ _ _ => none
  | .ldxh _ _ _ => none
  | .ldxw _ _ _ => none
  | .ldxdw _ _ _ => none
  | .ldxsb _ _ _ => none
  | .ldxsh _ _ _ => none
  | .ldxsw _ _ _ => none
  | .atomicAdd32 _ _ _ => none
  | .atomicFetchAdd32 _ _ _ => none
  | .atomicOr32 _ _ _ => none
  | .atomicFetchOr32 _ _ _ => none
  | .atomicAnd32 _ _ _ => none
  | .atomicFetchAnd32 _ _ _ => none
  | .atomicXor32 _ _ _ => none
  | .atomicFetchXor32 _ _ _ => none
  | .atomicXchg32 _ _ _ => none
  | .atomicCmpxchg32 _ _ _ => none
  | .atomicAdd64 _ _ _ => none
  | .atomicFetchAdd64 _ _ _ => none
  | .atomicOr64 _ _ _ => none
  | .atomicFetchOr64 _ _ _ => none
  | .atomicAnd64 _ _ _ => none
  | .atomicFetchAnd64 _ _ _ => none
  | .atomicXor64 _ _ _ => none
  | .atomicFetchXor64 _ _ _ => none
  | .atomicXchg64 _ _ _ => none
  | .atomicCmpxchg64 _ _ _ => none
  | .lddw _ _ nextImm => some nextImm
  | .ldMapFd _ _ => some 0
  | .ldMapValueFd _ _ nextImm => some nextImm
  | .ldVarAddr _ _ => some 0
  | .ldCodeAddr _ _ => some 0
  | .ldMapIdx _ _ => some 0
  | .ldMapValueIdx _ _ nextImm => some nextImm
  | .ldabsw _ _ _ _ => none
  | .ldabsh _ _ _ _ => none
  | .ldabsb _ _ _ _ => none
  | .ldindw _ _ _ _ => none
  | .ldindh _ _ _ _ => none
  | .ldindb _ _ _ _ => none

/-- The slots of an instruction in the platform's byte order (30_encoding.md R60 to R68). -/
def encode (e : Endian) (i : Instr) : List Slot :=
  match i.nextImm? with
  | none => [i.fields.slot e]
  | some next => [i.fields.slot e, (Fields.mk 0 0 0 0 next).slot e]

/-- The slots of an instruction given as spec/opcode_table.json numbers its bits: bits 63 to 0 are the canonical word of
the first slot, bits 127 to 64 that of a second slot; every bit at or above `nbits` is 0. -/
def slotsOfTableWord (e : Endian) (nbits w : Nat) : List Slot :=
  let v := w % 2 ^ nbits
  [(Fields.ofWord (BitVec.ofNat 64 v)).slot e, (Fields.ofWord (BitVec.ofNat 64 (v / 2 ^ 64))).slot e]

/-- The instruction the decoder reads from a table word, laid out in little-endian BPF (the spec's default `ENDIAN`;
log 18). -/
def decodeTableWord (nbits w : Nat) : Option Instr :=
  match decode .little (slotsOfTableWord .little nbits w) with
  | .ok (i, _) => some i
  | .error _ => none

end Sys2Proof
end

