-- ==== Sys2Proof/Machine/State.lean ====
section
/-! DEFINITION. The state of one program run (spec 10_state.md R36), the outcomes of a step (60_exceptions.md R401,
R409), program entry (70_reset_and_hazards.md R440) and reset. -/

namespace Sys2Proof.Machine

/-- The payload of `Refused` (60_exceptions.md R401, R409). DESIGN CHOICE (log 23): the spec says "reason" only, and
what a reason holds is the model's choice: one constructor for each way R409 lists, the platform function named apart, with
the argument at which it is undefined (as the vectors V172 and V178 of 95_test_vectors.md show two of them). -/
inductive RefusedReason where
  /-- One of the six legacy packet access opcodes (46_legacy_packet.md R390). Safe. -/
  | legacyPacket
  /-- `MapByFd` is undefined for the descriptor (45_imm64.md R372). Safe. -/
  | mapByFd (fd : BitVec 32)
  /-- `MapByIdx` is undefined for the index (45_imm64.md R372). Safe. -/
  | mapByIdx (idx : BitVec 32)
  /-- `MapVal` is undefined for the map at the address (45_imm64.md R372). Safe. -/
  | mapVal (map : Word)
  /-- `VarAddr` is undefined for the id (45_imm64.md R372). Safe. -/
  | varAddr (id : BitVec 32)
  /-- `CodeAddr` is undefined for the slot index (45_imm64.md R374). Safe. -/
  | codeAddr (target : Int)
  /-- A helper declines its arguments (60_exceptions.md R409 c). Safe. -/
  | helperDeclined
deriving DecidableEq, Repr

/-- The model faults of 60_exceptions.md R401, in its order, and two of the model's own. Each ends the run; the state
before the step stands (R410). -/
inductive Fault where
  /-- The fetch of a reserved encoding: `pc` and the slot (60_exceptions.md R402). Safe. -/
  | illegalInstruction (pc : Int) (slot : Slot)
  /-- A read of an unwritten register (60_exceptions.md R403). Safe. -/
  | unwrittenRegister (i : Reg)
  /-- A load, store, atomic operation or helper whose access is not admitted (60_exceptions.md R404). Safe. -/
  | memFault (addr : Word) (n : Nat) (kind : AccessKind)
  /-- A fetch outside the program or at a second slot (60_exceptions.md R405). Safe. -/
  | pcOutOfRange (pc : Int)
  /-- `call_local` with `MAX_CALL_DEPTH` records outstanding (60_exceptions.md R406). Safe. -/
  | callDepthExceeded
  /-- A helper call with an id that its table does not define (60_exceptions.md R407). Safe. -/
  | unknownHelper (id : BitVec 32)
  /-- An instruction that would write `x[10]` where `R10_WRITABLE` is false (60_exceptions.md R408). Safe. -/
  | readOnlyRegister
  /-- A defined encoding without semantics, or without an answer from the platform (60_exceptions.md R409). Safe. -/
  | refused (reason : RefusedReason)
  /-- The MODEL's own (log 17): `exec` was handed an instruction with a register number 11 to 15, which no decoded
  instruction has. Safe. -/
  | noSuchRegister (i : Reg)
  /-- The MODEL's own (log 5): a step after the outermost `exit`; the spec gives that state no successor
  (93_implementation_defined.md U31). Safe. -/
  | runEnded
deriving DecidableEq, Repr

/-- An instruction without a meaning in this model. -/
inductive Refusal where
  /-- The instruction has no meaning yet: raised by an arm of `exec` alone. Safe. -/
  | notModelled (mnemonic : String)
deriving DecidableEq, Repr

/-- A call record (10_state.md R32): where to resume, and the caller's `x[6]` to `x[10]`, each written or not. -/
structure CallRecord where
  ret : Int
  r6 : Option Word
  r7 : Option Word
  r8 : Option Word
  r9 : Option Word
  fp : Option Word
deriving DecidableEq, Repr

/-- What a helper does with its arguments (42_jump.md R228; 60_exceptions.md R409, R411; log 8). -/
inductive HelperAnswer where
  /-- The helper returns: its result and the bytes it writes, in order. -/
  | returns (result : Word) (writes : List Host.Cell)
  /-- The helper makes an access that is not admitted. -/
  | memFault (addr : Word) (n : Nat) (kind : AccessKind)
  /-- The helper declines its arguments. -/
  | declines
deriving DecidableEq, Repr

/-- What the platform answers to one helper call: the argument registers whose values the helper needs in this call, as it
decides (42_jump.md R228), and what it does when they are written (log 8). -/
structure HelperReply where
  needs : List Reg
  answer : HelperAnswer
deriving DecidableEq, Repr

/-- One access by which another agent writes memory (60_exceptions.md R419; log 12): where, which bytes, whether it is an
atomic operation, and, where the platform does not promise that it is whole (20_memory.md R47), at which offsets its bytes
land. -/
structure AgentWrite where
  addr : Nat
  bytes : List Byte
  atomic : Bool
  landed : List Nat
deriving DecidableEq, Repr

/-- What the other agents do around one step of the program: the accesses that land before it, in order, and, for bytes
that another agent is writing during it, what a regular read of each gives, a draw (20_memory.md R47, R48; log 22). -/
structure AgentTurn where
  writes : List AgentWrite
  racing : List Host.Cell
deriving DecidableEq, Repr

/-- The state of a run: the four parts of 10_state.md R36, the platform's parameters, and the model's own fields. -/
structure State where
  /-- `x[0]` to `x[10]`, each a value or unwritten (10_state.md R20, R21, R26). -/
  x : Vector (Option Word) 11
  /-- The index of the slot to execute (10_state.md R27); an integer, log 4. -/
  pc : Int
  /-- The call stack, top first (10_state.md R32). -/
  calls : List CallRecord
  /-- The bytes of data memory that have been written or that the platform lists (10_state.md R33; log 6). -/
  mem : List Host.Cell
  /-- The parameters of 00_scope.md R5; no step changes them (log 1). -/
  platform : Platform
  /-- The MODEL's own: the result of the run, once the outermost `exit` has executed (60_exceptions.md R410; log 5). -/
  result : Option Word
  /-- The MODEL's own: how many helper calls have been answered (log 8). -/
  helperCount : Nat
  /-- The MODEL's own: the platform's answers to the coming helper calls (log 8). -/
  helperReplies : List HelperReply
  /-- The MODEL's own: what other agents do around each coming step (60_exceptions.md R419; log 12). -/
  others : List AgentTurn
  /-- The MODEL's own: what regular reads of the present step give for bytes that another agent is writing
  (20_memory.md R47; log 22). -/
  racing : List Host.Cell
deriving DecidableEq, Repr

/-- What a meaning answers. -/
abbrev Result := Host.Outcome State Fault Refusal

/-- The registers at entry: `EntryRegs` written, the others unwritten (10_state.md R26; 70_reset_and_hazards.md
R440). -/
def State.entryRegisters (entryRegs : List (Reg × Word)) : Vector (Option Word) 11 :=
  #v[entryRegs.lookup 0, entryRegs.lookup 1, entryRegs.lookup 2, entryRegs.lookup 3, entryRegs.lookup 4,
     entryRegs.lookup 5, entryRegs.lookup 6, entryRegs.lookup 7, entryRegs.lookup 8, entryRegs.lookup 9,
     entryRegs.lookup 10]

/-- The entry state of a run on a platform with the given contents of data memory (70_reset_and_hazards.md R440). -/
def State.entry (p : Platform) (mem : List Host.Cell) : State :=
  { x := State.entryRegisters p.entryRegs, pc := 0, calls := [], mem := mem, platform := p, result := none,
    helperCount := 0, helperReplies := [], others := [], racing := [] }

/-- The platform of `State.reset` (log 2): the spec's defaults (00_scope.md R5), no program yet (log 18), the whole
address space admitted, every helper id and every map, variable and code address defined, and every register written
at entry (log 3), `x[10]` with the value of the spec's vectors (95_test_vectors.md). -/
def Platform.atReset : Platform :=
  { endian := .little
    program := []
    maxInsns := none
    regions := [{ base := 0, size := 2 ^ 64, reads := [1, 2, 4, 8], writes := [1, 2, 4, 8], atomics := [4, 8],
                  shared := false }]
    misalignedOk := false
    atomicOrder := { ordering := 0, singleCopy := false }
    helpers := { rows := [], total := true }
    btfHelpers := { rows := [], total := true }
    mapByFd := { rows := [], total := true }
    mapByIdx := { rows := [], total := true }
    mapVal := { rows := [], total := true }
    varAddr := { rows := [], total := true }
    codeAddrs := none
    maxCallDepth := 8
    stackSize := 512
    entryRegs := [(0, 0), (1, 0), (2, 0), (3, 0), (4, 0), (5, 0), (6, 0), (7, 0), (8, 0), (9, 0), (10, 0x10000)]
    r10Writable := false
    seed := 0 }

/-- The machine right after reset: program entry on the platform of log 2, with no byte of memory written. -/
def State.reset : State := State.entry Platform.atReset []

end Sys2Proof.Machine
end

