-- ==== Sys2Proof/Machine/Memory.lean ====
section
/-! DEFINITION. Data memory: a partial map from addresses to bytes in one canonical form, byte order, and the accesses
of 1, 2, 4 and 8 bytes (spec 10_state.md R33; 20_memory.md R40 to R47; 00_scope.md R13). -/

namespace Sys2Proof.Machine

/-- The number of addresses (20_memory.md R40). -/
def addressCount : Nat := 2 ^ 64

/-- The listed byte at an address, if one is listed. -/
def Memory.get : List Host.Cell → Nat → Option Byte
  | [], _ => none
  | (b, v) :: rest, a => if b = a then some v else Memory.get rest a

/-- List a byte at an address, keeping the addresses strictly rising. -/
def Memory.set : List Host.Cell → Nat → Byte → List Host.Cell
  | [], a, v => [(a, v)]
  | (b, w) :: rest, a, v =>
    if a < b then (a, v) :: (b, w) :: rest
    else if a = b then (a, v) :: rest
    else (b, w) :: Memory.set rest a v

/-- The addresses of a memory are at least `lo`, strictly rising and below 2^64. -/
def Memory.wfFrom (lo : Nat) : List Host.Cell → Bool
  | [] => true
  | (a, _) :: rest => decide (lo ≤ a) && decide (a < addressCount) && Memory.wfFrom (a + 1) rest

/-- The canonical form of memory (log 6): strictly rising addresses below 2^64. An unlisted address holds no byte yet,
so no entry can equal what it reads as. -/
def Memory.wf (m : List Host.Cell) : Bool := Memory.wfFrom 0 m

/-- Write a run of bytes at rising addresses. -/
def Memory.setBytes : List Host.Cell → Nat → List Byte → List Host.Cell
  | m, _, [] => m
  | m, a, v :: vs => Memory.setBytes (Memory.set m a v) (a + 1) vs

/-- Write scattered bytes in order; a cell whose address is not an address of the machine is dropped (log 8, log 12). -/
def Memory.apply : List Host.Cell → List Host.Cell → List Host.Cell
  | m, [] => m
  | m, (a, v) :: rest => if a < addressCount then Memory.apply (Memory.set m a v) rest else Memory.apply m rest

/-- The byte a read of an address gives: the listed one, or, where nothing has been written, the draw
(70_reset_and_hazards.md R440; 93_implementation_defined.md U14; log 7). -/
def State.byteAt (s : State) (a : Nat) : Byte :=
  match Memory.get s.mem a with
  | some v => v
  | none => Config.unwrittenByte s.platform.seed a

/-- The number that a string of bytes stands for, the first byte the least significant. -/
def littleNat : List Byte → Nat
  | [] => 0
  | b :: bs => b.toNat + 256 * littleNat bs

/-- The value of `8 * n` bits that `n` bytes at rising addresses stand for (20_memory.md R42). -/
def assemble (e : Endian) (n : Nat) (bs : List Byte) : BitVec (8 * n) :=
  match e with
  | .little => BitVec.ofNat (8 * n) (littleNat bs)
  | .big => BitVec.ofNat (8 * n) (littleNat bs.reverse)

/-- Byte `i` of a value of `8 * n` bits, byte 0 the least significant. -/
def byteOf {w : Nat} (v : BitVec w) (i : Nat) : Byte := v.extractLsb' (8 * i) 8

/-- The `n` bytes of a value, the one for the lowest address first (20_memory.md R42). -/
def disassemble (e : Endian) (n : Nat) (v : BitVec (8 * n)) : List Byte :=
  match e with
  | .little => (List.range n).map (byteOf v)
  | .big => ((List.range n).map (byteOf v)).reverse

/-- `MemRead(addr, n)` of an admitted access (20_memory.md R42). -/
def State.memRead (s : State) (addr : Word) (n : Nat) : BitVec (8 * n) :=
  assemble s.platform.endian n ((List.range n).map fun i => s.byteAt (addr.toNat + i))

/-- `MemWrite(addr, n, v)` of an admitted access (20_memory.md R42). -/
def State.memWrite (s : State) (addr : Word) (n : Nat) (v : BitVec (8 * n)) : State :=
  { s with mem := Memory.setBytes s.mem addr.toNat (disassemble s.platform.endian n v) }

/-- The widths a region admits for a kind of access. -/
def Region.widths (r : Region) : AccessKind → List Nat
  | .read => r.reads
  | .write => r.writes
  | .atomic => r.atomics

/-- All `n` bytes from `addr` on lie in the region, and it admits the width for the kind (20_memory.md R45). -/
def Region.admits (r : Region) (addr n : Nat) (kind : AccessKind) : Bool :=
  decide (r.base ≤ addr) && decide (addr + n ≤ r.base + r.size) && (r.widths kind).contains n

/-- The alignment rule: an atomic operation is always aligned, a regular access unless `MISALIGNED_OK`
(20_memory.md R46). -/
def aligned (misalignedOk : Bool) (addr n : Nat) : AccessKind → Bool
  | .atomic => decide (addr % n = 0)
  | .read | .write => misalignedOk || decide (addr % n = 0)

/-- `Admit(addr, n, kind)`: the access ends at or below 2^64 - 1, is aligned as R46 asks, and lies inside one region
(20_memory.md R41, R45, R46). -/
def Platform.admits (p : Platform) (addr : Word) (n : Nat) (kind : AccessKind) : Bool :=
  decide (addr.toNat + n ≤ addressCount) && aligned p.misalignedOk addr.toNat n kind &&
    p.regions.any fun r => r.admits addr.toNat n kind

/-- The address lies in a region that other agents may rewrite (60_exceptions.md R419). -/
def Platform.sharedAt (p : Platform) (a : Nat) : Bool :=
  p.regions.any fun r => r.shared && decide (r.base ≤ a) && decide (a < r.base + r.size)

/-- The platform says that a regular access of `n` bytes at `addr` is single-copy atomic: it must be naturally aligned, of
1, 2, 4 or 8 bytes (20_memory.md R47). -/
def Platform.wholeRegular (p : Platform) (addr n : Nat) : Bool :=
  p.atomicOrder.singleCopy && [1, 2, 4, 8].contains n && decide (addr % n = 0)

/-- The byte at `a` that a regular read of `n` bytes at `addr` gives: where another agent is writing it and the access is
not single-copy atomic, the draw; else what memory holds (20_memory.md R47; 93_implementation_defined.md U21; log 22). -/
def State.regularByteAt (s : State) (addr n a : Nat) : Byte :=
  if s.platform.sharedAt a && !s.platform.wholeRegular addr n then (s.racing.lookup a).getD (s.byteAt a) else s.byteAt a

/-- `MemRead(addr, n)` of an admitted regular access (20_memory.md R42, R47). An atomic operation reads by `memRead`. -/
def State.regularRead (s : State) (addr : Word) (n : Nat) : BitVec (8 * n) :=
  assemble s.platform.endian n ((List.range n).map fun i => s.regularByteAt addr.toNat n (addr.toNat + i))

/-- Another agent's access lands whole: an atomic operation always, a regular access where the platform says so
(20_memory.md R47, R51 b). -/
def AgentWrite.whole (p : Platform) (w : AgentWrite) : Bool := w.atomic || p.wholeRegular w.addr w.bytes.length

/-- The bytes of another agent's access that land (20_memory.md R47). -/
def AgentWrite.cells (p : Platform) (w : AgentWrite) : List Host.Cell :=
  (w.bytes.zipIdx.filter fun b => w.whole p || w.landed.contains b.2).map fun b => (w.addr + b.2, b.1)

/-- The bytes that land in a turn, in order. -/
def AgentTurn.cells (p : Platform) (turn : AgentTurn) : List Host.Cell := turn.writes.flatMap (AgentWrite.cells p)

/-- What the other agents do before a step: the writes of the head of `others` land where they are to shared bytes, and
its draws hold for the step (60_exceptions.md R419; log 12, log 22). -/
def State.otherAgents (s : State) : State :=
  match s.others with
  | [] => { s with racing := [] }
  | turn :: rest =>
    { s with
      mem := Memory.apply s.mem ((turn.cells s.platform).filter fun c => s.platform.sharedAt c.1)
      others := rest
      racing := turn.racing }

end Sys2Proof.Machine
end

