-- ==== Sys2Proof/Machine/Operands.lean ====
section
/-! DEFINITION. Operand forms: how the fields of an instruction become operand values, addresses and displacements
(spec 30_encoding.md R74, R75, R76; 20_memory.md R41; 42_jump.md R223). -/

namespace Sys2Proof.Machine

/-- The low half of a register, the operand of a 32-bit operation (10_state.md R21; 40_alu.md R100). -/
def low32 (v : Word) : BitVec 32 := v.setWidth 32

/-- A narrow result zero-extended into a register (00_scope.md R9; 40_alu.md R101). -/
def zext64 {w : Nat} (v : BitVec w) : Word := v.setWidth 64

/-- A narrow value sign-extended into a register (00_scope.md R9). -/
def sext64 {w : Nat} (v : BitVec w) : Word := v.signExtend 64

/-- The low `k` bits of a value sign-extended to its width: the cast of `BPF_MOVSX` (40_alu.md R108; 00_scope.md R8). -/
def sextLow {w : Nat} (k : Nat) (v : BitVec w) : BitVec w := (v.setWidth k).signExtend w

/-- imm as the second operand of a 64-bit operation (30_encoding.md R74; 92_eei_decisions.md D18). -/
def immWord (imm : BitVec 32) : Word := imm.signExtend 64

/-- The effective address of a load, store or atomic operation, modulo 2^64 (20_memory.md R41). -/
def effectiveAddress (base : Word) (off : BitVec 16) : Word := base + off.signExtend 64

/-- The `8 * n` bits that a store of `n` bytes writes of its value (43_load_store.md R303). -/
def storeLow (n : Nat) (v : Word) : BitVec (8 * n) := v.setWidth (8 * n)

/-- The target of a jump or call with displacement `d`, in slots from the slot after it (42_jump.md R223). -/
def jumpTarget {w : Nat} (pc : Int) (d : BitVec w) : Int := pc + 1 + d.toInt

/-- The 64-bit immediate (30_encoding.md R68). -/
def imm64 (nextImm imm : BitVec 32) : Word := nextImm ++ imm

end Sys2Proof.Machine
end

