-- ==== Sys2Proof/Machine/Ops.lean ====
section
/-! DEFINITION. The operations the meanings share: register reads and writes with the faults they raise, admitted memory
accesses, the call stack, helper calls and platform lookups (spec 00_scope.md R12, R13, R14; 60_exceptions.md R401 to
R411). The machine takes no exception and returns from none (60_exceptions.md R400, R412, R413): a model fault ends the
run with the state as it was, so that the shared operation of raising one is `Host.Outcome.fault`. -/

namespace Sys2Proof.Machine

/-- The eleven registers, each a value or unwritten (10_state.md R20, R26). -/
abbrev Registers := Vector (Option Word) 11

/-- The contents of a register, if the number names one and it is written (10_state.md R26). -/
def Registers.get (x : Registers) (r : Reg) : Option Word := (x[r.toNat]?).join

/-- The registers with one of them holding a value or unwritten (10_state.md R26). -/
def Registers.set (x : Registers) (r : Reg) (v : Option Word) : Registers := x.setIfInBounds r.toNat v

/-- The value of a register, if the number names one and it is written (10_state.md R26). -/
def State.reg (s : State) (r : Reg) : Option Word := Registers.get s.x r

/-- Make a register hold a value or be unwritten (10_state.md R26). -/
def State.setReg (s : State) (r : Reg) (v : Option Word) : State := { s with x := Registers.set s.x r v }

/-- Go on `n` slots further (10_state.md R28). -/
def State.advance (s : State) (n : Int) : State := { s with pc := s.pc + n }

/-- Read a register: `UnwrittenRegister(i)` where it holds no value (60_exceptions.md R403). -/
def withReg (s : State) (r : Reg) (k : Word → Result) : Result :=
  match s.reg r with
  | some v => k v
  | none => .fault (if r.toNat ≤ 10 then .unwrittenRegister r else .noSuchRegister r)

/-- A register the instruction is going to write: `ReadOnlyRegister` for register 10 where `R10_WRITABLE` is false
(30_encoding.md R83; 60_exceptions.md R408). This check precedes every register read (R411). -/
def withDst (s : State) (r : Reg) (k : Result) : Result :=
  if r.toNat > 10 then .fault (.noSuchRegister r)
  else if r.toNat = 10 ∧ s.platform.r10Writable = false then .fault .readOnlyRegister
  else k

/-- Write the destination register and go on `n` slots further. -/
def writeDst (s : State) (r : Reg) (v : Word) (n : Int) : Result := .next ((s.setReg r (some v)).advance n)

/-- Access `n` bytes: `MemFault(addr, n, kind)` unless `Admit(addr, n, kind)` (20_memory.md R45; 60_exceptions.md
R404). -/
def withAdmitted (s : State) (addr : Word) (n : Nat) (kind : AccessKind) (k : Result) : Result :=
  if s.platform.admits addr n kind then k else .fault (.memFault addr n kind)

/-- The registers with `x[1]` to `x[5]` unwritten (42_jump.md R228, R229). -/
def Registers.clobberArgs (x : Registers) : Registers :=
  ([1, 2, 3, 4, 5] : List Reg).foldl (fun y r => Registers.set y r none) x

/-- The call record of a call at `pc`: the slot after the call, and the caller's `x[6]` to `x[10]`, written or not
(10_state.md R32; 42_jump.md R277). -/
def State.callRecord (s : State) : CallRecord :=
  { ret := s.pc + 1, r6 := s.reg 6, r7 := s.reg 7, r8 := s.reg 8, r9 := s.reg 9, fp := s.reg 10 }

/-- The registers of a function that is being entered: `x[6]` to `x[9]` unwritten, `x[10]` lowered by `STACK_SIZE`, or
still unwritten (42_jump.md R229, R277; log 16). -/
def Registers.enter (x : Registers) (stackSize : Nat) : Registers :=
  Registers.set (([6, 7, 8, 9] : List Reg).foldl (fun y r => Registers.set y r none) x) 10
    ((Registers.get x 10).map fun fp => fp - BitVec.ofNat 64 stackSize)

/-- The registers of the caller on a return: `x[6]` to `x[10]` from the record, `x[1]` to `x[5]` unwritten, `x[0]` kept
(42_jump.md R229, R279; log 16). -/
def Registers.leave (x : Registers) (r : CallRecord) : Registers :=
  Registers.clobberArgs
    (([(6, r.r6), (7, r.r7), (8, r.r8), (9, r.r9), (10, r.fp)] : List (Reg × Option Word)).foldl
      (fun y p => Registers.set y p.1 p.2) x)

/-- Enter a program-local function at `target`, the call recorded (42_jump.md R229, R277). -/
def State.enterFunction (s : State) (target : Int) : State :=
  { s with x := Registers.enter s.x s.platform.stackSize, calls := s.callRecord :: s.calls, pc := target }

/-- Return to the caller of a record that has just been popped, `rest` the records below it (42_jump.md R229,
R279). -/
def State.leaveFunction (s : State) (r : CallRecord) (rest : List CallRecord) : State :=
  { s with x := Registers.leave s.x r, calls := rest, pc := r.ret }

/-- End the run with a result (42_jump.md R279; 70_reset_and_hazards.md R441; log 5). -/
def State.halt (s : State) (v : Word) : State := { s with result := some v }

/-- The argument registers a helper needs, if its table defines the id (42_jump.md R228). -/
def HelperTable.needs? (t : HelperTable) (id : BitVec 32) : Option (List Reg) :=
  match t.rows.find? (fun row => row.id == id) with
  | some row => some row.needs
  | none => if t.total then some [] else none

/-- Read the argument registers that a helper needs, in the order `x[1]` to `x[5]` (42_jump.md R228, R276;
60_exceptions.md R403, R411). A helper has no other register to need. -/
def withNeeded (s : State) (needs : List Reg) (k : Result) : Result :=
  match ([1, 2, 3, 4, 5] : List Reg).find? fun r => (s.reg r).isNone && needs.contains r with
  | some r => .fault (.unwrittenRegister r)
  | none => k

/-- What a free answer may depend on: the call as the helper sees it (log 8). -/
def State.helperCall (s : State) (btf : Bool) (id : BitVec 32) : HelperCall :=
  { seed := s.platform.seed, count := s.helperCount, btf := btf, id := id,
    args := [s.reg 1, s.reg 2, s.reg 3, s.reg 4, s.reg 5], mem := s.mem }

/-- The platform's answer to a helper call: the oldest listed one, or, where none is listed, a return whose needs, result
and writes are free values (42_jump.md R228; log 8). -/
def State.helperReply (s : State) (btf : Bool) (id : BitVec 32) : HelperReply :=
  match s.helperReplies with
  | reply :: _ => reply
  | [] =>
    { needs := Config.helperNeeds (s.helperCall btf id)
      answer := .returns (Config.helperResult (s.helperCall btf id)) (Config.helperWrites (s.helperCall btf id)) }

/-- The return of a helper: memory as the helper leaves it, the result in `x[0]`, `x[1]` to `x[5]` unwritten, the next
slot (42_jump.md R228, R276). -/
def State.helperReturns (s : State) (result : Word) (writes : List Host.Cell) : State :=
  { s with
    x := Registers.clobberArgs (Registers.set s.x 0 (some result))
    pc := s.pc + 1
    mem := Memory.apply s.mem writes
    helperCount := s.helperCount + 1
    helperReplies := s.helperReplies.tail }

/-- Call a helper of a table (42_jump.md R228, R276, R278), the faults in the order of 60_exceptions.md R411 as far as
it can be kept: the table and the helper say which registers it reads (log 9). -/
def callHelper (t : HelperTable) (btf : Bool) (id : BitVec 32) (s : State) : Result :=
  match t.needs? id with
  | none => .fault (.unknownHelper id)
  | some needs =>
    withNeeded s (needs ++ (s.helperReply btf id).needs)
      (match (s.helperReply btf id).answer with
       | .returns result writes => .next (s.helperReturns result writes)
       | .memFault addr n kind => .fault (.memFault addr n kind)
       | .declines => .fault (.refused .helperDeclined))

/-- A platform function at a key: the listed address, or the free value where the table is total, or nothing
(45_imm64.md R372; log 10). -/
def AddrTable.at? {w : Nat} (t : AddrTable w) (free : BitVec w → Word) (key : BitVec w) : Option Word :=
  match t.rows.lookup key with
  | some a => some a
  | none => if t.total then some (free key) else none

/-- `MapByFd` (45_imm64.md R372). -/
def Platform.mapByFd? (p : Platform) (fd : BitVec 32) : Option Word := p.mapByFd.at? (Config.mapByFd p.seed) fd

/-- `MapByIdx` (45_imm64.md R372). -/
def Platform.mapByIdx? (p : Platform) (idx : BitVec 32) : Option Word := p.mapByIdx.at? (Config.mapByIdx p.seed) idx

/-- `MapVal` (45_imm64.md R372). -/
def Platform.mapVal? (p : Platform) (map : Word) : Option Word := p.mapVal.at? (Config.mapVal p.seed) map

/-- `VarAddr` (45_imm64.md R372). -/
def Platform.varAddr? (p : Platform) (id : BitVec 32) : Option Word := p.varAddr.at? (Config.varAddr p.seed) id

/-- The scan of 30_encoding.md R79 from a slot on: slot `n` of the list is in the program and begins an instruction.
`second` says that the head of the list is a second slot. -/
def beginsFrom (second : Bool) : List Slot → Nat → Bool
  | [], _ => false
  | _ :: _, 0 => !second
  | s :: rest, n + 1 => beginsFrom (!second && s.b0 == 0x18) rest n

/-- A slot index that is inside the program and begins an instruction (30_encoding.md R79). -/
def Platform.beginsAt (p : Platform) (pc : Int) : Bool :=
  decide (0 ≤ pc) && beginsFrom false p.program pc.toNat

/-- `CodeAddr`, defined exactly where an instruction begins (45_imm64.md R374): the listed value, or a free one
(log 11). -/
def Platform.codeAddr? (p : Platform) (target : Int) : Option Word :=
  if p.beginsAt target then
    match p.codeAddrs with
    | some vs => vs[target.toNat]?
    | none => some (Config.codeAddr p.seed (BitVec.ofNat 64 target.toNat))
  else none

/-- A platform lookup: `Refused` where the function is undefined (45_imm64.md R372; 60_exceptions.md R409). -/
def withLookup (a : Option Word) (reason : RefusedReason) (k : Word → Result) : Result :=
  match a with
  | some v => k v
  | none => .fault (.refused reason)

end Sys2Proof.Machine
end

