-- ==== Sys2Proof/Machine/Alu.lean ====
section
/-! DEFINITION. The arithmetic instructions of classes BPF_ALU and BPF_ALU64 (spec 40_alu.md R100 to R172): the operations at
any width, the operand forms, and one meaning per instruction. -/

namespace Sys2Proof.Machine

/-- Unsigned quotient, 0 for a zero divisor (40_alu.md R103, R105). -/
def aluDiv {w : Nat} (a b : BitVec w) : BitVec w := if b = 0 then 0 else a.udiv b

/-- Unsigned remainder, the dividend for a zero divisor (40_alu.md R103, R105). -/
def aluMod {w : Nat} (a b : BitVec w) : BitVec w := if b = 0 then a else a.umod b

/-- Signed quotient rounded toward zero, wrapping for the most negative value by -1, 0 for a zero divisor
(40_alu.md R103, R105, R106). -/
def aluSdiv {w : Nat} (a b : BitVec w) : BitVec w := if b = 0 then 0 else a.sdiv b

/-- Signed remainder with the sign of the dividend, the dividend for a zero divisor (40_alu.md R103, R105, R106). -/
def aluSmod {w : Nat} (a b : BitVec w) : BitVec w := if b = 0 then a else a.srem b

/-- Left shift by the masked amount (40_alu.md R107). -/
def aluLsh {w : Nat} (mask a b : BitVec w) : BitVec w := a <<< (b &&& mask)

/-- Right shift by the masked amount, filling with zeros (40_alu.md R107). -/
def aluRsh {w : Nat} (mask a b : BitVec w) : BitVec w := a >>> (b &&& mask)

/-- Right shift by the masked amount, filling with the sign bit (40_alu.md R107). -/
def aluArsh {w : Nat} (mask a b : BitVec w) : BitVec w := a.sshiftRight' (b &&& mask)

/-- The mask of a 64-bit shift amount (40_alu.md R107). -/
def mask64 : Word := 0x3f

/-- The mask of a 32-bit shift amount (40_alu.md R107). -/
def mask32 : BitVec 32 := 0x1f

/-- 64-bit operation with an immediate operand: imm sign-extended (40_alu.md R100, R104, R109). -/
def alu64K (f : Word → Word → Word) (dst : Reg) (imm : BitVec 32) (s : State) : Result :=
  withDst s dst (withReg s dst fun a => writeDst s dst (f a (immWord imm)) 1)

/-- 64-bit operation with a register operand (40_alu.md R100, R109). -/
def alu64X (f : Word → Word → Word) (dst src : Reg) (s : State) : Result :=
  withDst s dst (withReg s dst fun a => withReg s src fun b => writeDst s dst (f a b) 1)

/-- 32-bit operation with an immediate operand: imm as it is, the result zero-extended (40_alu.md R100, R101, R104). -/
def alu32K (f : BitVec 32 → BitVec 32 → BitVec 32) (dst : Reg) (imm : BitVec 32) (s : State) : Result :=
  withDst s dst (withReg s dst fun a => writeDst s dst (zext64 (f (low32 a) imm)) 1)

/-- 32-bit operation with a register operand: low halves, the result zero-extended (40_alu.md R100, R101). -/
def alu32X (f : BitVec 32 → BitVec 32 → BitVec 32) (dst src : Reg) (s : State) : Result :=
  withDst s dst
    (withReg s dst fun a => withReg s src fun b => writeDst s dst (zext64 (f (low32 a) (low32 b))) 1)

/-- An operation on the destination register alone (40_alu.md R146, R147; 41_byteswap.md R204). -/
def aluUnary (f : Word → Word) (dst : Reg) (s : State) : Result :=
  withDst s dst (withReg s dst fun a => writeDst s dst (f a) 1)

/-- A move of a value: the destination is not read (40_alu.md R109). -/
def movValue (v : Word) (dst : Reg) (s : State) : Result := withDst s dst (writeDst s dst v 1)

/-- A move from a register: the destination is not read (40_alu.md R109). -/
def movReg (f : Word → Word) (dst src : Reg) (s : State) : Result :=
  withDst s dst (withReg s src fun b => writeDst s dst (f b) 1)

/-- `add32_imm`: 32-bit add, immediate operand, `wD += imm` (40_alu.md R110). -/
def execAdd32Imm (dst : Reg) (imm : BitVec 32) (s : State) : Result := alu32K (fun a b => a + b) dst imm s

/-- `add32_reg`: 32-bit add, register operand, `wD += wS` (40_alu.md R111). -/
def execAdd32Reg (dst : Reg) (src : Reg) (s : State) : Result := alu32X (fun a b => a + b) dst src s

/-- `add64_imm`: 64-bit add, immediate operand, `rD += imm` (40_alu.md R112). -/
def execAdd64Imm (dst : Reg) (imm : BitVec 32) (s : State) : Result := alu64K (fun a b => a + b) dst imm s

/-- `add64_reg`: 64-bit add, register operand, `rD += rS` (40_alu.md R113). -/
def execAdd64Reg (dst : Reg) (src : Reg) (s : State) : Result := alu64X (fun a b => a + b) dst src s

/-- `sub32_imm`: 32-bit subtract, immediate operand, `wD -= imm` (40_alu.md R114). -/
def execSub32Imm (dst : Reg) (imm : BitVec 32) (s : State) : Result := alu32K (fun a b => a - b) dst imm s

/-- `sub32_reg`: 32-bit subtract, register operand, `wD -= wS` (40_alu.md R115). -/
def execSub32Reg (dst : Reg) (src : Reg) (s : State) : Result := alu32X (fun a b => a - b) dst src s

/-- `sub64_imm`: 64-bit subtract, immediate operand, `rD -= imm` (40_alu.md R116). -/
def execSub64Imm (dst : Reg) (imm : BitVec 32) (s : State) : Result := alu64K (fun a b => a - b) dst imm s

/-- `sub64_reg`: 64-bit subtract, register operand, `rD -= rS` (40_alu.md R117). -/
def execSub64Reg (dst : Reg) (src : Reg) (s : State) : Result := alu64X (fun a b => a - b) dst src s

/-- `mul32_imm`: 32-bit multiply, immediate operand, `wD *= imm` (40_alu.md R118). -/
def execMul32Imm (dst : Reg) (imm : BitVec 32) (s : State) : Result := alu32K (fun a b => a * b) dst imm s

/-- `mul32_reg`: 32-bit multiply, register operand, `wD *= wS` (40_alu.md R119). -/
def execMul32Reg (dst : Reg) (src : Reg) (s : State) : Result := alu32X (fun a b => a * b) dst src s

/-- `mul64_imm`: 64-bit multiply, immediate operand, `rD *= imm` (40_alu.md R120). -/
def execMul64Imm (dst : Reg) (imm : BitVec 32) (s : State) : Result := alu64K (fun a b => a * b) dst imm s

/-- `mul64_reg`: 64-bit multiply, register operand, `rD *= rS` (40_alu.md R121). -/
def execMul64Reg (dst : Reg) (src : Reg) (s : State) : Result := alu64X (fun a b => a * b) dst src s

/-- `div32_imm`: 32-bit unsigned divide, immediate operand, `wD /= imm` (40_alu.md R122). -/
def execDiv32Imm (dst : Reg) (imm : BitVec 32) (s : State) : Result := alu32K aluDiv dst imm s

/-- `div32_reg`: 32-bit unsigned divide, register operand, `wD /= wS` (40_alu.md R123). -/
def execDiv32Reg (dst : Reg) (src : Reg) (s : State) : Result := alu32X aluDiv dst src s

/-- `div64_imm`: 64-bit unsigned divide, immediate operand, `rD /= imm` (40_alu.md R124). -/
def execDiv64Imm (dst : Reg) (imm : BitVec 32) (s : State) : Result := alu64K aluDiv dst imm s

/-- `div64_reg`: 64-bit unsigned divide, register operand, `rD /= rS` (40_alu.md R125). -/
def execDiv64Reg (dst : Reg) (src : Reg) (s : State) : Result := alu64X aluDiv dst src s

/-- `sdiv32_imm`: 32-bit signed divide, immediate operand, `wD s/= imm` (40_alu.md R126). -/
def execSdiv32Imm (dst : Reg) (imm : BitVec 32) (s : State) : Result := alu32K aluSdiv dst imm s

/-- `sdiv32_reg`: 32-bit signed divide, register operand, `wD s/= wS` (40_alu.md R127). -/
def execSdiv32Reg (dst : Reg) (src : Reg) (s : State) : Result := alu32X aluSdiv dst src s

/-- `sdiv64_imm`: 64-bit signed divide, immediate operand, `rD s/= imm` (40_alu.md R128). -/
def execSdiv64Imm (dst : Reg) (imm : BitVec 32) (s : State) : Result := alu64K aluSdiv dst imm s

/-- `sdiv64_reg`: 64-bit signed divide, register operand, `rD s/= rS` (40_alu.md R129). -/
def execSdiv64Reg (dst : Reg) (src : Reg) (s : State) : Result := alu64X aluSdiv dst src s

/-- `or32_imm`: 32-bit bitwise or, immediate operand, `wD |= imm` (40_alu.md R130). -/
def execOr32Imm (dst : Reg) (imm : BitVec 32) (s : State) : Result := alu32K (fun a b => a ||| b) dst imm s

/-- `or32_reg`: 32-bit bitwise or, register operand, `wD |= wS` (40_alu.md R131). -/
def execOr32Reg (dst : Reg) (src : Reg) (s : State) : Result := alu32X (fun a b => a ||| b) dst src s

/-- `or64_imm`: 64-bit bitwise or, immediate operand, `rD |= imm` (40_alu.md R132). -/
def execOr64Imm (dst : Reg) (imm : BitVec 32) (s : State) : Result := alu64K (fun a b => a ||| b) dst imm s

/-- `or64_reg`: 64-bit bitwise or, register operand, `rD |= rS` (40_alu.md R133). -/
def execOr64Reg (dst : Reg) (src : Reg) (s : State) : Result := alu64X (fun a b => a ||| b) dst src s

/-- `and32_imm`: 32-bit bitwise and, immediate operand, `wD &= imm` (40_alu.md R134). -/
def execAnd32Imm (dst : Reg) (imm : BitVec 32) (s : State) : Result := alu32K (fun a b => a &&& b) dst imm s

/-- `and32_reg`: 32-bit bitwise and, register operand, `wD &= wS` (40_alu.md R135). -/
def execAnd32Reg (dst : Reg) (src : Reg) (s : State) : Result := alu32X (fun a b => a &&& b) dst src s

/-- `and64_imm`: 64-bit bitwise and, immediate operand, `rD &= imm` (40_alu.md R136). -/
def execAnd64Imm (dst : Reg) (imm : BitVec 32) (s : State) : Result := alu64K (fun a b => a &&& b) dst imm s

/-- `and64_reg`: 64-bit bitwise and, register operand, `rD &= rS` (40_alu.md R137). -/
def execAnd64Reg (dst : Reg) (src : Reg) (s : State) : Result := alu64X (fun a b => a &&& b) dst src s

/-- `lsh32_imm`: 32-bit shift left, immediate operand, `wD <<= imm` (40_alu.md R138). -/
def execLsh32Imm (dst : Reg) (imm : BitVec 32) (s : State) : Result := alu32K (aluLsh mask32) dst imm s

/-- `lsh32_reg`: 32-bit shift left, register operand, `wD <<= wS` (40_alu.md R139). -/
def execLsh32Reg (dst : Reg) (src : Reg) (s : State) : Result := alu32X (aluLsh mask32) dst src s

/-- `lsh64_imm`: 64-bit shift left, immediate operand, `rD <<= imm` (40_alu.md R140). -/
def execLsh64Imm (dst : Reg) (imm : BitVec 32) (s : State) : Result := alu64K (aluLsh mask64) dst imm s

/-- `lsh64_reg`: 64-bit shift left, register operand, `rD <<= rS` (40_alu.md R141). -/
def execLsh64Reg (dst : Reg) (src : Reg) (s : State) : Result := alu64X (aluLsh mask64) dst src s

/-- `rsh32_imm`: 32-bit logical shift right, immediate operand, `wD >>= imm` (40_alu.md R142). -/
def execRsh32Imm (dst : Reg) (imm : BitVec 32) (s : State) : Result := alu32K (aluRsh mask32) dst imm s

/-- `rsh32_reg`: 32-bit logical shift right, register operand, `wD >>= wS` (40_alu.md R143). -/
def execRsh32Reg (dst : Reg) (src : Reg) (s : State) : Result := alu32X (aluRsh mask32) dst src s

/-- `rsh64_imm`: 64-bit logical shift right, immediate operand, `rD >>= imm` (40_alu.md R144). -/
def execRsh64Imm (dst : Reg) (imm : BitVec 32) (s : State) : Result := alu64K (aluRsh mask64) dst imm s

/-- `rsh64_reg`: 64-bit logical shift right, register operand, `rD >>= rS` (40_alu.md R145). -/
def execRsh64Reg (dst : Reg) (src : Reg) (s : State) : Result := alu64X (aluRsh mask64) dst src s

/-- `neg32`: 32-bit negate, `wD = -wD` (40_alu.md R146). -/
def execNeg32 (dst : Reg) (s : State) : Result := aluUnary (fun a => zext64 (-low32 a)) dst s

/-- `neg64`: 64-bit negate, `rD = -rD` (40_alu.md R147). -/
def execNeg64 (dst : Reg) (s : State) : Result := aluUnary (fun a => -a) dst s

/-- `mod32_imm`: 32-bit unsigned modulo, immediate operand, `wD %= imm` (40_alu.md R148). -/
def execMod32Imm (dst : Reg) (imm : BitVec 32) (s : State) : Result := alu32K aluMod dst imm s

/-- `mod32_reg`: 32-bit unsigned modulo, register operand, `wD %= wS` (40_alu.md R149). -/
def execMod32Reg (dst : Reg) (src : Reg) (s : State) : Result := alu32X aluMod dst src s

/-- `mod64_imm`: 64-bit unsigned modulo, immediate operand, `rD %= imm` (40_alu.md R150). -/
def execMod64Imm (dst : Reg) (imm : BitVec 32) (s : State) : Result := alu64K aluMod dst imm s

/-- `mod64_reg`: 64-bit unsigned modulo, register operand, `rD %= rS` (40_alu.md R151). -/
def execMod64Reg (dst : Reg) (src : Reg) (s : State) : Result := alu64X aluMod dst src s

/-- `smod32_imm`: 32-bit signed modulo, immediate operand, `wD s%= imm` (40_alu.md R152). -/
def execSmod32Imm (dst : Reg) (imm : BitVec 32) (s : State) : Result := alu32K aluSmod dst imm s

/-- `smod32_reg`: 32-bit signed modulo, register operand, `wD s%= wS` (40_alu.md R153). -/
def execSmod32Reg (dst : Reg) (src : Reg) (s : State) : Result := alu32X aluSmod dst src s

/-- `smod64_imm`: 64-bit signed modulo, immediate operand, `rD s%= imm` (40_alu.md R154). -/
def execSmod64Imm (dst : Reg) (imm : BitVec 32) (s : State) : Result := alu64K aluSmod dst imm s

/-- `smod64_reg`: 64-bit signed modulo, register operand, `rD s%= rS` (40_alu.md R155). -/
def execSmod64Reg (dst : Reg) (src : Reg) (s : State) : Result := alu64X aluSmod dst src s

/-- `xor32_imm`: 32-bit bitwise exclusive or, immediate operand, `wD ^= imm` (40_alu.md R156). -/
def execXor32Imm (dst : Reg) (imm : BitVec 32) (s : State) : Result := alu32K (fun a b => a ^^^ b) dst imm s

/-- `xor32_reg`: 32-bit bitwise exclusive or, register operand, `wD ^= wS` (40_alu.md R157). -/
def execXor32Reg (dst : Reg) (src : Reg) (s : State) : Result := alu32X (fun a b => a ^^^ b) dst src s

/-- `xor64_imm`: 64-bit bitwise exclusive or, immediate operand, `rD ^= imm` (40_alu.md R158). -/
def execXor64Imm (dst : Reg) (imm : BitVec 32) (s : State) : Result := alu64K (fun a b => a ^^^ b) dst imm s

/-- `xor64_reg`: 64-bit bitwise exclusive or, register operand, `rD ^= rS` (40_alu.md R159). -/
def execXor64Reg (dst : Reg) (src : Reg) (s : State) : Result := alu64X (fun a b => a ^^^ b) dst src s

/-- `mov32_imm`: 32-bit move, immediate operand, `wD = imm` (40_alu.md R160). -/
def execMov32Imm (dst : Reg) (imm : BitVec 32) (s : State) : Result := movValue (zext64 imm) dst s

/-- `mov32_reg`: 32-bit move, register operand, `wD = wS` (40_alu.md R161). -/
def execMov32Reg (dst : Reg) (src : Reg) (s : State) : Result := movReg (fun b => zext64 (low32 b)) dst src s

/-- `mov64_imm`: 64-bit move, immediate operand, `rD = imm` (40_alu.md R162). -/
def execMov64Imm (dst : Reg) (imm : BitVec 32) (s : State) : Result := movValue (immWord imm) dst s

/-- `mov64_reg`: 64-bit move, register operand, `rD = rS` (40_alu.md R163). -/
def execMov64Reg (dst : Reg) (src : Reg) (s : State) : Result := movReg (fun b => b) dst src s

/-- `movsx8_32`: move with sign extension from 8 bits, 32-bit destination, `wD = (s8)wS` (40_alu.md R164). -/
def execMovsx8To32 (dst : Reg) (src : Reg) (s : State) : Result :=
  movReg (fun b => zext64 (sextLow 8 (low32 b))) dst src s

/-- `movsx16_32`: move with sign extension from 16 bits, 32-bit destination, `wD = (s16)wS` (40_alu.md R165). -/
def execMovsx16To32 (dst : Reg) (src : Reg) (s : State) : Result :=
  movReg (fun b => zext64 (sextLow 16 (low32 b))) dst src s

/-- `movsx8_64`: move with sign extension from 8 bits, 64-bit destination, `rD = (s8)rS` (40_alu.md R166). -/
def execMovsx8To64 (dst : Reg) (src : Reg) (s : State) : Result := movReg (fun b => sextLow 8 b) dst src s

/-- `movsx16_64`: move with sign extension from 16 bits, 64-bit destination, `rD = (s16)rS` (40_alu.md R167). -/
def execMovsx16To64 (dst : Reg) (src : Reg) (s : State) : Result := movReg (fun b => sextLow 16 b) dst src s

/-- `movsx32_64`: move with sign extension from 32 bits, 64-bit destination, `rD = (s32)rS` (40_alu.md R168). -/
def execMovsx32To64 (dst : Reg) (src : Reg) (s : State) : Result := movReg (fun b => sextLow 32 b) dst src s

/-- `arsh32_imm`: 32-bit arithmetic shift right, immediate operand, `wD s>>= imm` (40_alu.md R169). -/
def execArsh32Imm (dst : Reg) (imm : BitVec 32) (s : State) : Result := alu32K (aluArsh mask32) dst imm s

/-- `arsh32_reg`: 32-bit arithmetic shift right, register operand, `wD s>>= wS` (40_alu.md R170). -/
def execArsh32Reg (dst : Reg) (src : Reg) (s : State) : Result := alu32X (aluArsh mask32) dst src s

/-- `arsh64_imm`: 64-bit arithmetic shift right, immediate operand, `rD s>>= imm` (40_alu.md R171). -/
def execArsh64Imm (dst : Reg) (imm : BitVec 32) (s : State) : Result := alu64K (aluArsh mask64) dst imm s

/-- `arsh64_reg`: 64-bit arithmetic shift right, register operand, `rD s>>= rS` (40_alu.md R172). -/
def execArsh64Reg (dst : Reg) (src : Reg) (s : State) : Result := alu64X (aluArsh mask64) dst src s

end Sys2Proof.Machine
end

