-- ==== Sys2Proof/Machine/Atomic.lean ====
section
/-! DEFINITION. The atomic operations, mode BPF_ATOMIC (spec 44_atomic.md R330 to R359). One step is indivisible, because other
agents act between steps only (20_memory.md R47; 60_exceptions.md R414, R419). -/

namespace Sys2Proof.Machine

/-- `AtomicRMW(addr, n, f)` of an admitted access, as it leaves the state; the old value is `MemRead(addr, n)` before it
(00_scope.md R13). -/
def State.atomicRmw (s : State) (addr : Word) (n : Nat) (f : BitVec (8 * n) → BitVec (8 * n)) : State :=
  s.memWrite addr n (f (s.memRead addr n))

/-- A simple operation without fetch: no register is written (44_atomic.md R332, R337). -/
def atomicNoFetch (n : Nat) (f : BitVec (8 * n) → BitVec (8 * n) → BitVec (8 * n)) (dst src : Reg) (off : BitVec 16)
    (s : State) : Result :=
  withReg s dst fun base => withReg s src fun v =>
    withAdmitted s (effectiveAddress base off) n .atomic
      (.next ((s.atomicRmw (effectiveAddress base off) n fun old => f old (storeLow n v)).advance 1))

/-- An operation with fetch, or an exchange: `x[src]` receives the old value, zero-extended (44_atomic.md R333, R334,
R337). -/
def atomicFetch (n : Nat) (f : BitVec (8 * n) → BitVec (8 * n) → BitVec (8 * n)) (dst src : Reg) (off : BitVec 16)
    (s : State) : Result :=
  withDst s src
    (withReg s dst fun base => withReg s src fun v =>
      withAdmitted s (effectiveAddress base off) n .atomic
        (writeDst (s.atomicRmw (effectiveAddress base off) n fun old => f old (storeLow n v)) src
          (zext64 (s.memRead (effectiveAddress base off) n)) 1))

/-- Compare and exchange: memory takes the value of `x[src]` where it equals `x[0]` and keeps its own otherwise; `x[0]`
receives the old value, zero-extended, in either case (44_atomic.md R335, R337). -/
def atomicCompareExchange (n : Nat) (dst src : Reg) (off : BitVec 16) (s : State) : Result :=
  withReg s dst fun base => withReg s src fun v => withReg s 0 fun expected =>
    withAdmitted s (effectiveAddress base off) n .atomic
      (writeDst
        (if s.memRead (effectiveAddress base off) n = storeLow n expected then
          s.memWrite (effectiveAddress base off) n (storeLow n v)
        else s)
        0 (zext64 (s.memRead (effectiveAddress base off) n)) 1)

/-- `atomic_add32`: 32-bit atomic add, `lock *(u32 *)(rD + off) += wS` (44_atomic.md R340). -/
def execAtomicAdd32 (dst : Reg) (src : Reg) (off : BitVec 16) (s : State) : Result :=
  atomicNoFetch 4 (fun old v => old + v) dst src off s

/-- `atomic_fetch_add32`: 32-bit atomic add, returning the old value, `wS = atomic_fetch_add((u32 *)(rD + off), wS)`
(44_atomic.md R341). -/
def execAtomicFetchAdd32 (dst : Reg) (src : Reg) (off : BitVec 16) (s : State) : Result :=
  atomicFetch 4 (fun old v => old + v) dst src off s

/-- `atomic_or32`: 32-bit atomic or, `lock *(u32 *)(rD + off) |= wS` (44_atomic.md R342). -/
def execAtomicOr32 (dst : Reg) (src : Reg) (off : BitVec 16) (s : State) : Result :=
  atomicNoFetch 4 (fun old v => old ||| v) dst src off s

/-- `atomic_fetch_or32`: 32-bit atomic or, returning the old value, `wS = atomic_fetch_or((u32 *)(rD + off), wS)`
(44_atomic.md R343). -/
def execAtomicFetchOr32 (dst : Reg) (src : Reg) (off : BitVec 16) (s : State) : Result :=
  atomicFetch 4 (fun old v => old ||| v) dst src off s

/-- `atomic_and32`: 32-bit atomic and, `lock *(u32 *)(rD + off) &= wS` (44_atomic.md R344). -/
def execAtomicAnd32 (dst : Reg) (src : Reg) (off : BitVec 16) (s : State) : Result :=
  atomicNoFetch 4 (fun old v => old &&& v) dst src off s

/-- `atomic_fetch_and32`: 32-bit atomic and, returning the old value, `wS = atomic_fetch_and((u32 *)(rD + off), wS)`
(44_atomic.md R345). -/
def execAtomicFetchAnd32 (dst : Reg) (src : Reg) (off : BitVec 16) (s : State) : Result :=
  atomicFetch 4 (fun old v => old &&& v) dst src off s

/-- `atomic_xor32`: 32-bit atomic exclusive or, `lock *(u32 *)(rD + off) ^= wS` (44_atomic.md R346). -/
def execAtomicXor32 (dst : Reg) (src : Reg) (off : BitVec 16) (s : State) : Result :=
  atomicNoFetch 4 (fun old v => old ^^^ v) dst src off s

/-- `atomic_fetch_xor32`: 32-bit atomic exclusive or, returning the old value, `wS = atomic_fetch_xor((u32
*)(rD + off), wS)` (44_atomic.md R347). -/
def execAtomicFetchXor32 (dst : Reg) (src : Reg) (off : BitVec 16) (s : State) : Result :=
  atomicFetch 4 (fun old v => old ^^^ v) dst src off s

/-- `atomic_xchg32`: 32-bit atomic exchange, `wS = xchg32_32(rD + off, wS)` (44_atomic.md R348). -/
def execAtomicXchg32 (dst : Reg) (src : Reg) (off : BitVec 16) (s : State) : Result :=
  atomicFetch 4 (fun _ v => v) dst src off s

/-- `atomic_cmpxchg32`: 32-bit atomic compare and exchange, `w0 = cmpxchg32_32(rD + off, w0, wS)`
(44_atomic.md R349). -/
def execAtomicCmpxchg32 (dst : Reg) (src : Reg) (off : BitVec 16) (s : State) : Result :=
  atomicCompareExchange 4 dst src off s

/-- `atomic_add64`: 64-bit atomic add, `lock *(u64 *)(rD + off) += rS` (44_atomic.md R350). -/
def execAtomicAdd64 (dst : Reg) (src : Reg) (off : BitVec 16) (s : State) : Result :=
  atomicNoFetch 8 (fun old v => old + v) dst src off s

/-- `atomic_fetch_add64`: 64-bit atomic add, returning the old value, `rS = atomic_fetch_add((u64 *)(rD + off), rS)`
(44_atomic.md R351). -/
def execAtomicFetchAdd64 (dst : Reg) (src : Reg) (off : BitVec 16) (s : State) : Result :=
  atomicFetch 8 (fun old v => old + v) dst src off s

/-- `atomic_or64`: 64-bit atomic or, `lock *(u64 *)(rD + off) |= rS` (44_atomic.md R352). -/
def execAtomicOr64 (dst : Reg) (src : Reg) (off : BitVec 16) (s : State) : Result :=
  atomicNoFetch 8 (fun old v => old ||| v) dst src off s

/-- `atomic_fetch_or64`: 64-bit atomic or, returning the old value, `rS = atomic_fetch_or((u64 *)(rD + off), rS)`
(44_atomic.md R353). -/
def execAtomicFetchOr64 (dst : Reg) (src : Reg) (off : BitVec 16) (s : State) : Result :=
  atomicFetch 8 (fun old v => old ||| v) dst src off s

/-- `atomic_and64`: 64-bit atomic and, `lock *(u64 *)(rD + off) &= rS` (44_atomic.md R354). -/
def execAtomicAnd64 (dst : Reg) (src : Reg) (off : BitVec 16) (s : State) : Result :=
  atomicNoFetch 8 (fun old v => old &&& v) dst src off s

/-- `atomic_fetch_and64`: 64-bit atomic and, returning the old value, `rS = atomic_fetch_and((u64 *)(rD + off), rS)`
(44_atomic.md R355). -/
def execAtomicFetchAnd64 (dst : Reg) (src : Reg) (off : BitVec 16) (s : State) : Result :=
  atomicFetch 8 (fun old v => old &&& v) dst src off s

/-- `atomic_xor64`: 64-bit atomic exclusive or, `lock *(u64 *)(rD + off) ^= rS` (44_atomic.md R356). -/
def execAtomicXor64 (dst : Reg) (src : Reg) (off : BitVec 16) (s : State) : Result :=
  atomicNoFetch 8 (fun old v => old ^^^ v) dst src off s

/-- `atomic_fetch_xor64`: 64-bit atomic exclusive or, returning the old value, `rS = atomic_fetch_xor((u64
*)(rD + off), rS)` (44_atomic.md R357). -/
def execAtomicFetchXor64 (dst : Reg) (src : Reg) (off : BitVec 16) (s : State) : Result :=
  atomicFetch 8 (fun old v => old ^^^ v) dst src off s

/-- `atomic_xchg64`: 64-bit atomic exchange, `rS = xchg_64(rD + off, rS)` (44_atomic.md R358). -/
def execAtomicXchg64 (dst : Reg) (src : Reg) (off : BitVec 16) (s : State) : Result :=
  atomicFetch 8 (fun _ v => v) dst src off s

/-- `atomic_cmpxchg64`: 64-bit atomic compare and exchange, `r0 = cmpxchg_64(rD + off, r0, rS)`
(44_atomic.md R359). -/
def execAtomicCmpxchg64 (dst : Reg) (src : Reg) (off : BitVec 16) (s : State) : Result :=
  atomicCompareExchange 8 dst src off s

end Sys2Proof.Machine
end

