-- ==== Sys2Proof/Machine/ByteSwap.lean ====
section
/-! DEFINITION. The byte swap instructions, code BPF_END (spec 41_byteswap.md R200 to R213; 00_scope.md R15). -/

namespace Sys2Proof.Machine

/-- `bswap16` (00_scope.md R15). -/
def bswap16 (v : BitVec 16) : BitVec 16 := v.extractLsb' 0 8 ++ v.extractLsb' 8 8

/-- `bswap32` (00_scope.md R15). -/
def bswap32 (v : BitVec 32) : BitVec 32 :=
  v.extractLsb' 0 8 ++ v.extractLsb' 8 8 ++ v.extractLsb' 16 8 ++ v.extractLsb' 24 8

/-- `bswap64` (00_scope.md R15). -/
def bswap64 (v : BitVec 64) : BitVec 64 :=
  v.extractLsb' 0 8 ++ v.extractLsb' 8 8 ++ v.extractLsb' 16 8 ++ v.extractLsb' 24 8 ++ v.extractLsb' 32 8 ++
    v.extractLsb' 40 8 ++ v.extractLsb' 48 8 ++ v.extractLsb' 56 8

/-- `htole`: to little-endian from the host's order, given the swap of the width (00_scope.md R15). -/
def toLittle {w : Nat} (e : Endian) (swap : BitVec w → BitVec w) (v : BitVec w) : BitVec w :=
  match e with
  | .little => v
  | .big => swap v

/-- `htobe`: to big-endian from the host's order, given the swap of the width (00_scope.md R15). -/
def toBig {w : Nat} (e : Endian) (swap : BitVec w → BitVec w) (v : BitVec w) : BitVec w :=
  match e with
  | .little => swap v
  | .big => v

/-- A byte swap of the low `w` bits of the destination, the result zero-extended (41_byteswap.md R202, R203, R204). -/
def swapLow {w : Nat} (f : BitVec w → BitVec w) (dst : Reg) (s : State) : Result :=
  aluUnary (fun a => zext64 (f (a.setWidth w))) dst s

/-- `le16`: convert to or from little-endian, 16 bits, `rD = le16 rD` (41_byteswap.md R205). -/
def execLe16 (dst : Reg) (s : State) : Result := swapLow (toLittle s.platform.endian bswap16) dst s

/-- `le32`: convert to or from little-endian, 32 bits, `rD = le32 rD` (41_byteswap.md R206). -/
def execLe32 (dst : Reg) (s : State) : Result := swapLow (toLittle s.platform.endian bswap32) dst s

/-- `le64`: convert to or from little-endian, 64 bits, `rD = le64 rD` (41_byteswap.md R207). -/
def execLe64 (dst : Reg) (s : State) : Result := swapLow (toLittle s.platform.endian bswap64) dst s

/-- `be16`: convert to or from big-endian, 16 bits, `rD = be16 rD` (41_byteswap.md R208). -/
def execBe16 (dst : Reg) (s : State) : Result := swapLow (toBig s.platform.endian bswap16) dst s

/-- `be32`: convert to or from big-endian, 32 bits, `rD = be32 rD` (41_byteswap.md R209). -/
def execBe32 (dst : Reg) (s : State) : Result := swapLow (toBig s.platform.endian bswap32) dst s

/-- `be64`: convert to or from big-endian, 64 bits, `rD = be64 rD` (41_byteswap.md R210). -/
def execBe64 (dst : Reg) (s : State) : Result := swapLow (toBig s.platform.endian bswap64) dst s

/-- `bswap16`: unconditional byte swap, 16 bits, `rD = bswap16 rD` (41_byteswap.md R211). -/
def execBswap16 (dst : Reg) (s : State) : Result := swapLow bswap16 dst s

/-- `bswap32`: unconditional byte swap, 32 bits, `rD = bswap32 rD` (41_byteswap.md R212). -/
def execBswap32 (dst : Reg) (s : State) : Result := swapLow bswap32 dst s

/-- `bswap64`: unconditional byte swap, 64 bits, `rD = bswap64 rD` (41_byteswap.md R213). -/
def execBswap64 (dst : Reg) (s : State) : Result := swapLow bswap64 dst s

end Sys2Proof.Machine
end

