-- ==== Sys2Proof/Machine/Imm64.lean ====
section
/-! DEFINITION. The 64-bit immediate instructions, opcode 0x18, two slots (spec 45_imm64.md R370 to R384). -/

namespace Sys2Proof.Machine

/-- Load the answer of a platform function (45_imm64.md R372, R375). -/
def loadLookup (a : Option Word) (reason : RefusedReason) (dst : Reg) (s : State) : Result :=
  withDst s dst (withLookup a reason fun v => writeDst s dst v 2)

/-- Load the address `nextImm` bytes, unsigned, above the first value of a map (45_imm64.md R372, R373, R375). -/
def loadMapValue (map : Option Word) (reason : RefusedReason) (nextImm : BitVec 32) (dst : Reg) (s : State) : Result :=
  withDst s dst
    (withLookup map reason fun m =>
      withLookup (s.platform.mapVal? m) (.mapVal m) fun v => writeDst s dst (v + zext64 nextImm) 2)

/-- `lddw`: load 64-bit immediate, `rD = imm64 ll` (45_imm64.md R378). -/
def execLddw (dst : Reg) (imm : BitVec 32) (nextImm : BitVec 32) (s : State) : Result :=
  withDst s dst (writeDst s dst (imm64 nextImm imm) 2)

/-- `ld_map_fd`: load the address of a map named by file descriptor, `rD = map_by_fd(imm) ll` (45_imm64.md R379). -/
def execLdMapFd (dst : Reg) (imm : BitVec 32) (s : State) : Result :=
  loadLookup (s.platform.mapByFd? imm) (.mapByFd imm) dst s

/-- `ld_map_value_fd`: load the address of a byte inside the value area of a map named by file descriptor,
`rD = map_val(map_by_fd(imm)) + next_imm ll` (45_imm64.md R380). -/
def execLdMapValueFd (dst : Reg) (imm : BitVec 32) (nextImm : BitVec 32) (s : State) : Result :=
  loadMapValue (s.platform.mapByFd? imm) (.mapByFd imm) nextImm dst s

/-- `ld_var_addr`: load the address of a platform variable, `rD = var_addr(imm) ll` (45_imm64.md R381). -/
def execLdVarAddr (dst : Reg) (imm : BitVec 32) (s : State) : Result :=
  loadLookup (s.platform.varAddr? imm) (.varAddr imm) dst s

/-- `ld_code_addr`: load the address of an instruction, `rD = code_addr(imm) ll` (45_imm64.md R382). -/
def execLdCodeAddr (dst : Reg) (imm : BitVec 32) (s : State) : Result :=
  loadLookup (s.platform.codeAddr? (jumpTarget s.pc imm)) (.codeAddr (jumpTarget s.pc imm)) dst s

/-- `ld_map_idx`: load the address of a map named by index, `rD = map_by_idx(imm) ll` (45_imm64.md R383). -/
def execLdMapIdx (dst : Reg) (imm : BitVec 32) (s : State) : Result :=
  loadLookup (s.platform.mapByIdx? imm) (.mapByIdx imm) dst s

/-- `ld_map_value_idx`: load the address of a byte inside the value area of a map named by index, `rD =
map_val(map_by_idx(imm)) + next_imm ll` (45_imm64.md R384). -/
def execLdMapValueIdx (dst : Reg) (imm : BitVec 32) (nextImm : BitVec 32) (s : State) : Result :=
  loadMapValue (s.platform.mapByIdx? imm) (.mapByIdx imm) nextImm dst s

end Sys2Proof.Machine
end

