-- ==== Sys2Proof/Machine/Flags.lean ====
section
/-! DEFINITION. The machine has no flags or condition codes (spec 10_state.md R29): a conditional jump computes its
condition from its two operands. These are the conditions of 42_jump.md R224, at the operands' width. -/

namespace Sys2Proof.Machine

/-- `BPF_JEQ`: bit equality (42_jump.md R224). -/
def condEq {w : Nat} (a b : BitVec w) : Bool := decide (a = b)

/-- `BPF_JNE`: bit inequality (42_jump.md R224). -/
def condNe {w : Nat} (a b : BitVec w) : Bool := decide (a ≠ b)

/-- `BPF_JSET`: the bitwise and is not zero (42_jump.md R224). -/
def condSet {w : Nat} (a b : BitVec w) : Bool := decide (a &&& b ≠ 0)

/-- `BPF_JGT`: greater, unsigned (42_jump.md R224). -/
def condGt {w : Nat} (a b : BitVec w) : Bool := decide (a.toNat > b.toNat)

/-- `BPF_JGE`: greater or equal, unsigned (42_jump.md R224). -/
def condGe {w : Nat} (a b : BitVec w) : Bool := decide (a.toNat ≥ b.toNat)

/-- `BPF_JLT`: less, unsigned (42_jump.md R224). -/
def condLt {w : Nat} (a b : BitVec w) : Bool := decide (a.toNat < b.toNat)

/-- `BPF_JLE`: less or equal, unsigned (42_jump.md R224). -/
def condLe {w : Nat} (a b : BitVec w) : Bool := decide (a.toNat ≤ b.toNat)

/-- `BPF_JSGT`: greater, signed (42_jump.md R224). -/
def condSgt {w : Nat} (a b : BitVec w) : Bool := decide (a.toInt > b.toInt)

/-- `BPF_JSGE`: greater or equal, signed (42_jump.md R224). -/
def condSge {w : Nat} (a b : BitVec w) : Bool := decide (a.toInt ≥ b.toInt)

/-- `BPF_JSLT`: less, signed (42_jump.md R224). -/
def condSlt {w : Nat} (a b : BitVec w) : Bool := decide (a.toInt < b.toInt)

/-- `BPF_JSLE`: less or equal, signed (42_jump.md R224). -/
def condSle {w : Nat} (a b : BitVec w) : Bool := decide (a.toInt ≤ b.toInt)

end Sys2Proof.Machine
end

