-- ==== Sys2Proof/Machine/Jump.lean ====
section
/-! DEFINITION. Jumps, calls and exit (spec 42_jump.md R220 to R279). -/

namespace Sys2Proof.Machine

/-- Go to a slot; the next step checks it (42_jump.md R223). -/
def State.goTo (s : State) (target : Int) : State := { s with pc := target }

/-- A conditional jump: to the target if the condition holds, else to the next slot (42_jump.md R223, R225). -/
def State.branch (s : State) (taken : Bool) (off : BitVec 16) : State :=
  if taken then s.goTo (jumpTarget s.pc off) else s.advance 1

/-- 64-bit compare with the sign-extended imm (42_jump.md R224, R225). -/
def jcc64K (cond : Word → Word → Bool) (dst : Reg) (off : BitVec 16) (imm : BitVec 32) (s : State) : Result :=
  withReg s dst fun a => .next (s.branch (cond a (immWord imm)) off)

/-- 64-bit compare of two registers (42_jump.md R224, R225). -/
def jcc64X (cond : Word → Word → Bool) (dst src : Reg) (off : BitVec 16) (s : State) : Result :=
  withReg s dst fun a => withReg s src fun b => .next (s.branch (cond a b) off)

/-- 32-bit compare of a low half with imm as it is (42_jump.md R224, R225). -/
def jcc32K (cond : BitVec 32 → BitVec 32 → Bool) (dst : Reg) (off : BitVec 16) (imm : BitVec 32) (s : State) : Result :=
  withReg s dst fun a => .next (s.branch (cond (low32 a) imm) off)

/-- 32-bit compare of the low halves of two registers (42_jump.md R224, R225). -/
def jcc32X (cond : BitVec 32 → BitVec 32 → Bool) (dst src : Reg) (off : BitVec 16) (s : State) : Result :=
  withReg s dst fun a => withReg s src fun b => .next (s.branch (cond (low32 a) (low32 b)) off)

/-- `ja`: unconditional jump, 16-bit displacement, `goto +off` (42_jump.md R230). -/
def execJa (off : BitVec 16) (s : State) : Result := .next (s.goTo (jumpTarget s.pc off))

/-- `ja32`: unconditional jump, 32-bit displacement, `gotol +imm` (42_jump.md R231). -/
def execJa32 (imm : BitVec 32) (s : State) : Result := .next (s.goTo (jumpTarget s.pc imm))

/-- `jeq_imm`: jump if equal, 64-bit compare with immediate, `if rD == imm goto +off` (42_jump.md R232). -/
def execJeqImm (dst : Reg) (off : BitVec 16) (imm : BitVec 32) (s : State) : Result := jcc64K condEq dst off imm s

/-- `jeq_reg`: jump if equal, 64-bit compare with register, `if rD == rS goto +off` (42_jump.md R233). -/
def execJeqReg (dst : Reg) (src : Reg) (off : BitVec 16) (s : State) : Result := jcc64X condEq dst src off s

/-- `jeq32_imm`: jump if equal, 32-bit compare with immediate, `if wD == imm goto +off` (42_jump.md R234). -/
def execJeq32Imm (dst : Reg) (off : BitVec 16) (imm : BitVec 32) (s : State) : Result := jcc32K condEq dst off imm s

/-- `jeq32_reg`: jump if equal, 32-bit compare with register, `if wD == wS goto +off` (42_jump.md R235). -/
def execJeq32Reg (dst : Reg) (src : Reg) (off : BitVec 16) (s : State) : Result := jcc32X condEq dst src off s

/-- `jgt_imm`: jump if greater, unsigned, 64-bit compare with immediate, `if rD > imm goto +off` (42_jump.md R236). -/
def execJgtImm (dst : Reg) (off : BitVec 16) (imm : BitVec 32) (s : State) : Result := jcc64K condGt dst off imm s

/-- `jgt_reg`: jump if greater, unsigned, 64-bit compare with register, `if rD > rS goto +off` (42_jump.md R237). -/
def execJgtReg (dst : Reg) (src : Reg) (off : BitVec 16) (s : State) : Result := jcc64X condGt dst src off s

/-- `jgt32_imm`: jump if greater, unsigned, 32-bit compare with immediate, `if wD > imm goto +off`
(42_jump.md R238). -/
def execJgt32Imm (dst : Reg) (off : BitVec 16) (imm : BitVec 32) (s : State) : Result := jcc32K condGt dst off imm s

/-- `jgt32_reg`: jump if greater, unsigned, 32-bit compare with register, `if wD > wS goto +off` (42_jump.md R239). -/
def execJgt32Reg (dst : Reg) (src : Reg) (off : BitVec 16) (s : State) : Result := jcc32X condGt dst src off s

/-- `jge_imm`: jump if greater or equal, unsigned, 64-bit compare with immediate, `if rD >= imm goto +off`
(42_jump.md R240). -/
def execJgeImm (dst : Reg) (off : BitVec 16) (imm : BitVec 32) (s : State) : Result := jcc64K condGe dst off imm s

/-- `jge_reg`: jump if greater or equal, unsigned, 64-bit compare with register, `if rD >= rS goto +off`
(42_jump.md R241). -/
def execJgeReg (dst : Reg) (src : Reg) (off : BitVec 16) (s : State) : Result := jcc64X condGe dst src off s

/-- `jge32_imm`: jump if greater or equal, unsigned, 32-bit compare with immediate, `if wD >= imm goto +off`
(42_jump.md R242). -/
def execJge32Imm (dst : Reg) (off : BitVec 16) (imm : BitVec 32) (s : State) : Result := jcc32K condGe dst off imm s

/-- `jge32_reg`: jump if greater or equal, unsigned, 32-bit compare with register, `if wD >= wS goto +off`
(42_jump.md R243). -/
def execJge32Reg (dst : Reg) (src : Reg) (off : BitVec 16) (s : State) : Result := jcc32X condGe dst src off s

/-- `jset_imm`: jump if any common bit is set, 64-bit compare with immediate, `if rD & imm goto +off`
(42_jump.md R244). -/
def execJsetImm (dst : Reg) (off : BitVec 16) (imm : BitVec 32) (s : State) : Result := jcc64K condSet dst off imm s

/-- `jset_reg`: jump if any common bit is set, 64-bit compare with register, `if rD & rS goto +off`
(42_jump.md R245). -/
def execJsetReg (dst : Reg) (src : Reg) (off : BitVec 16) (s : State) : Result := jcc64X condSet dst src off s

/-- `jset32_imm`: jump if any common bit is set, 32-bit compare with immediate, `if wD & imm goto +off`
(42_jump.md R246). -/
def execJset32Imm (dst : Reg) (off : BitVec 16) (imm : BitVec 32) (s : State) : Result := jcc32K condSet dst off imm s

/-- `jset32_reg`: jump if any common bit is set, 32-bit compare with register, `if wD & wS goto +off`
(42_jump.md R247). -/
def execJset32Reg (dst : Reg) (src : Reg) (off : BitVec 16) (s : State) : Result := jcc32X condSet dst src off s

/-- `jne_imm`: jump if not equal, 64-bit compare with immediate, `if rD != imm goto +off` (42_jump.md R248). -/
def execJneImm (dst : Reg) (off : BitVec 16) (imm : BitVec 32) (s : State) : Result := jcc64K condNe dst off imm s

/-- `jne_reg`: jump if not equal, 64-bit compare with register, `if rD != rS goto +off` (42_jump.md R249). -/
def execJneReg (dst : Reg) (src : Reg) (off : BitVec 16) (s : State) : Result := jcc64X condNe dst src off s

/-- `jne32_imm`: jump if not equal, 32-bit compare with immediate, `if wD != imm goto +off` (42_jump.md R250). -/
def execJne32Imm (dst : Reg) (off : BitVec 16) (imm : BitVec 32) (s : State) : Result := jcc32K condNe dst off imm s

/-- `jne32_reg`: jump if not equal, 32-bit compare with register, `if wD != wS goto +off` (42_jump.md R251). -/
def execJne32Reg (dst : Reg) (src : Reg) (off : BitVec 16) (s : State) : Result := jcc32X condNe dst src off s

/-- `jsgt_imm`: jump if greater, signed, 64-bit compare with immediate, `if rD s> imm goto +off` (42_jump.md R252). -/
def execJsgtImm (dst : Reg) (off : BitVec 16) (imm : BitVec 32) (s : State) : Result := jcc64K condSgt dst off imm s

/-- `jsgt_reg`: jump if greater, signed, 64-bit compare with register, `if rD s> rS goto +off` (42_jump.md R253). -/
def execJsgtReg (dst : Reg) (src : Reg) (off : BitVec 16) (s : State) : Result := jcc64X condSgt dst src off s

/-- `jsgt32_imm`: jump if greater, signed, 32-bit compare with immediate, `if wD s> imm goto +off`
(42_jump.md R254). -/
def execJsgt32Imm (dst : Reg) (off : BitVec 16) (imm : BitVec 32) (s : State) : Result := jcc32K condSgt dst off imm s

/-- `jsgt32_reg`: jump if greater, signed, 32-bit compare with register, `if wD s> wS goto +off` (42_jump.md R255). -/
def execJsgt32Reg (dst : Reg) (src : Reg) (off : BitVec 16) (s : State) : Result := jcc32X condSgt dst src off s

/-- `jsge_imm`: jump if greater or equal, signed, 64-bit compare with immediate, `if rD s>= imm goto +off`
(42_jump.md R256). -/
def execJsgeImm (dst : Reg) (off : BitVec 16) (imm : BitVec 32) (s : State) : Result := jcc64K condSge dst off imm s

/-- `jsge_reg`: jump if greater or equal, signed, 64-bit compare with register, `if rD s>= rS goto +off`
(42_jump.md R257). -/
def execJsgeReg (dst : Reg) (src : Reg) (off : BitVec 16) (s : State) : Result := jcc64X condSge dst src off s

/-- `jsge32_imm`: jump if greater or equal, signed, 32-bit compare with immediate, `if wD s>= imm goto +off`
(42_jump.md R258). -/
def execJsge32Imm (dst : Reg) (off : BitVec 16) (imm : BitVec 32) (s : State) : Result := jcc32K condSge dst off imm s

/-- `jsge32_reg`: jump if greater or equal, signed, 32-bit compare with register, `if wD s>= wS goto +off`
(42_jump.md R259). -/
def execJsge32Reg (dst : Reg) (src : Reg) (off : BitVec 16) (s : State) : Result := jcc32X condSge dst src off s

/-- `jlt_imm`: jump if less, unsigned, 64-bit compare with immediate, `if rD < imm goto +off` (42_jump.md R260). -/
def execJltImm (dst : Reg) (off : BitVec 16) (imm : BitVec 32) (s : State) : Result := jcc64K condLt dst off imm s

/-- `jlt_reg`: jump if less, unsigned, 64-bit compare with register, `if rD < rS goto +off` (42_jump.md R261). -/
def execJltReg (dst : Reg) (src : Reg) (off : BitVec 16) (s : State) : Result := jcc64X condLt dst src off s

/-- `jlt32_imm`: jump if less, unsigned, 32-bit compare with immediate, `if wD < imm goto +off` (42_jump.md R262). -/
def execJlt32Imm (dst : Reg) (off : BitVec 16) (imm : BitVec 32) (s : State) : Result := jcc32K condLt dst off imm s

/-- `jlt32_reg`: jump if less, unsigned, 32-bit compare with register, `if wD < wS goto +off` (42_jump.md R263). -/
def execJlt32Reg (dst : Reg) (src : Reg) (off : BitVec 16) (s : State) : Result := jcc32X condLt dst src off s

/-- `jle_imm`: jump if less or equal, unsigned, 64-bit compare with immediate, `if rD <= imm goto +off`
(42_jump.md R264). -/
def execJleImm (dst : Reg) (off : BitVec 16) (imm : BitVec 32) (s : State) : Result := jcc64K condLe dst off imm s

/-- `jle_reg`: jump if less or equal, unsigned, 64-bit compare with register, `if rD <= rS goto +off`
(42_jump.md R265). -/
def execJleReg (dst : Reg) (src : Reg) (off : BitVec 16) (s : State) : Result := jcc64X condLe dst src off s

/-- `jle32_imm`: jump if less or equal, unsigned, 32-bit compare with immediate, `if wD <= imm goto +off`
(42_jump.md R266). -/
def execJle32Imm (dst : Reg) (off : BitVec 16) (imm : BitVec 32) (s : State) : Result := jcc32K condLe dst off imm s

/-- `jle32_reg`: jump if less or equal, unsigned, 32-bit compare with register, `if wD <= wS goto +off`
(42_jump.md R267). -/
def execJle32Reg (dst : Reg) (src : Reg) (off : BitVec 16) (s : State) : Result := jcc32X condLe dst src off s

/-- `jslt_imm`: jump if less, signed, 64-bit compare with immediate, `if rD s< imm goto +off` (42_jump.md R268). -/
def execJsltImm (dst : Reg) (off : BitVec 16) (imm : BitVec 32) (s : State) : Result := jcc64K condSlt dst off imm s

/-- `jslt_reg`: jump if less, signed, 64-bit compare with register, `if rD s< rS goto +off` (42_jump.md R269). -/
def execJsltReg (dst : Reg) (src : Reg) (off : BitVec 16) (s : State) : Result := jcc64X condSlt dst src off s

/-- `jslt32_imm`: jump if less, signed, 32-bit compare with immediate, `if wD s< imm goto +off` (42_jump.md R270). -/
def execJslt32Imm (dst : Reg) (off : BitVec 16) (imm : BitVec 32) (s : State) : Result := jcc32K condSlt dst off imm s

/-- `jslt32_reg`: jump if less, signed, 32-bit compare with register, `if wD s< wS goto +off` (42_jump.md R271). -/
def execJslt32Reg (dst : Reg) (src : Reg) (off : BitVec 16) (s : State) : Result := jcc32X condSlt dst src off s

/-- `jsle_imm`: jump if less or equal, signed, 64-bit compare with immediate, `if rD s<= imm goto +off`
(42_jump.md R272). -/
def execJsleImm (dst : Reg) (off : BitVec 16) (imm : BitVec 32) (s : State) : Result := jcc64K condSle dst off imm s

/-- `jsle_reg`: jump if less or equal, signed, 64-bit compare with register, `if rD s<= rS goto +off`
(42_jump.md R273). -/
def execJsleReg (dst : Reg) (src : Reg) (off : BitVec 16) (s : State) : Result := jcc64X condSle dst src off s

/-- `jsle32_imm`: jump if less or equal, signed, 32-bit compare with immediate, `if wD s<= imm goto +off`
(42_jump.md R274). -/
def execJsle32Imm (dst : Reg) (off : BitVec 16) (imm : BitVec 32) (s : State) : Result := jcc32K condSle dst off imm s

/-- `jsle32_reg`: jump if less or equal, signed, 32-bit compare with register, `if wD s<= wS goto +off`
(42_jump.md R275). -/
def execJsle32Reg (dst : Reg) (src : Reg) (off : BitVec 16) (s : State) : Result := jcc32X condSle dst src off s

/-- `call_helper`: call a helper function identified by address (id), `call imm` (42_jump.md R276). -/
def execCallHelper (imm : BitVec 32) (s : State) : Result := callHelper s.platform.helpers false imm s

/-- `call_local`: call a program-local function, `call pc+imm` (42_jump.md R277). -/
def execCallLocal (imm : BitVec 32) (s : State) : Result :=
  if s.calls.length ≥ s.platform.maxCallDepth then .fault .callDepthExceeded
  else .next (s.enterFunction (jumpTarget s.pc imm))

/-- `call_btf`: call a helper function identified by BTF ID, `call btf imm` (42_jump.md R278). -/
def execCallBtf (imm : BitVec 32) (s : State) : Result := callHelper s.platform.btfHelpers true imm s

/-- `exit`: return from a program-local function, or end the program, `exit` (42_jump.md R279). -/
def execExit (s : State) : Result :=
  match s.calls with
  | [] => withReg s 0 fun v => .next (s.halt v)
  | r :: rest => .next (s.leaveFunction r rest)

end Sys2Proof.Machine
end

