-- ==== Sys2Proof/Machine/Legacy.lean ====
section
/-! DEFINITION. The legacy packet access instructions, modes BPF_ABS and BPF_IND (spec 46_legacy_packet.md R390 to R398): the
source gives them no semantics, and executing one raises `Refused` whatever its fields hold. -/

namespace Sys2Proof.Machine

/-- `raise Refused` (46_legacy_packet.md R390; 60_exceptions.md R409 a). -/
def refuseLegacy : Result := .fault (.refused .legacyPacket)

/-- `ldabsw`: legacy packet access, absolute, 4 bytes, `r0 = *(u32 *)skb[imm] (display only)`
(46_legacy_packet.md R393). -/
def execLdabsw (_dst : Reg) (_src : Reg) (_off : BitVec 16) (_imm : BitVec 32) (_s : State) : Result := refuseLegacy

/-- `ldabsh`: legacy packet access, absolute, 2 bytes, `r0 = *(u16 *)skb[imm] (display only)`
(46_legacy_packet.md R394). -/
def execLdabsh (_dst : Reg) (_src : Reg) (_off : BitVec 16) (_imm : BitVec 32) (_s : State) : Result := refuseLegacy

/-- `ldabsb`: legacy packet access, absolute, 1 byte, `r0 = *(u8 *)skb[imm] (display only)`
(46_legacy_packet.md R395). -/
def execLdabsb (_dst : Reg) (_src : Reg) (_off : BitVec 16) (_imm : BitVec 32) (_s : State) : Result := refuseLegacy

/-- `ldindw`: legacy packet access, indirect, 4 bytes, `r0 = *(u32 *)skb[rS + imm] (display only)`
(46_legacy_packet.md R396). -/
def execLdindw (_dst : Reg) (_src : Reg) (_off : BitVec 16) (_imm : BitVec 32) (_s : State) : Result := refuseLegacy

/-- `ldindh`: legacy packet access, indirect, 2 bytes, `r0 = *(u16 *)skb[rS + imm] (display only)`
(46_legacy_packet.md R397). -/
def execLdindh (_dst : Reg) (_src : Reg) (_off : BitVec 16) (_imm : BitVec 32) (_s : State) : Result := refuseLegacy

/-- `ldindb`: legacy packet access, indirect, 1 byte, `r0 = *(u8 *)skb[rS + imm] (display only)`
(46_legacy_packet.md R398). -/
def execLdindb (_dst : Reg) (_src : Reg) (_off : BitVec 16) (_imm : BitVec 32) (_s : State) : Result := refuseLegacy

end Sys2Proof.Machine
end

