-- ==== Sys2Proof/Machine/LoadStore.lean ====
section
/-! DEFINITION. Regular loads and stores and sign-extension loads (spec 43_load_store.md R300 to R324). -/

namespace Sys2Proof.Machine

/-- Store `n` bytes at an address (43_load_store.md R303, R304). -/
def storeAt (s : State) (addr : Word) (n : Nat) (v : BitVec (8 * n)) : Result :=
  withAdmitted s addr n .write (.next ((s.memWrite addr n v).advance 1))

/-- A store of the low `8 * n` bits of a register (43_load_store.md R302, R303, R304). -/
def storeReg (n : Nat) (dst src : Reg) (off : BitVec 16) (s : State) : Result :=
  withReg s dst fun base => withReg s src fun v => storeAt s (effectiveAddress base off) n (storeLow n v)

/-- A store of imm: its low `8 * n` bits, sign-extended for 8 bytes (43_load_store.md R302, R303, R304). -/
def storeImm (n : Nat) (dst : Reg) (off : BitVec 16) (imm : BitVec 32) (s : State) : Result :=
  withReg s dst fun base => storeAt s (effectiveAddress base off) n (storeLow n (immWord imm))

/-- A load of `n` bytes, a regular read, extended by `ext` (43_load_store.md R302, R303, R304; 20_memory.md R47). -/
def loadWith (n : Nat) (ext : BitVec (8 * n) → Word) (dst src : Reg) (off : BitVec 16) (s : State) : Result :=
  withDst s dst
    (withReg s src fun base =>
      withAdmitted s (effectiveAddress base off) n .read
        (writeDst s dst (ext (s.regularRead (effectiveAddress base off) n)) 1))

/-- `stxb`: store byte from register, `*(u8 *)(rD + off) = rS` (43_load_store.md R310). -/
def execStxb (dst : Reg) (src : Reg) (off : BitVec 16) (s : State) : Result := storeReg 1 dst src off s

/-- `stxh`: store half word from register, `*(u16 *)(rD + off) = rS` (43_load_store.md R311). -/
def execStxh (dst : Reg) (src : Reg) (off : BitVec 16) (s : State) : Result := storeReg 2 dst src off s

/-- `stxw`: store word from register, `*(u32 *)(rD + off) = rS` (43_load_store.md R312). -/
def execStxw (dst : Reg) (src : Reg) (off : BitVec 16) (s : State) : Result := storeReg 4 dst src off s

/-- `stxdw`: store double word from register, `*(u64 *)(rD + off) = rS` (43_load_store.md R313). -/
def execStxdw (dst : Reg) (src : Reg) (off : BitVec 16) (s : State) : Result := storeReg 8 dst src off s

/-- `stb`: store byte from immediate, `*(u8 *)(rD + off) = imm` (43_load_store.md R314). -/
def execStb (dst : Reg) (off : BitVec 16) (imm : BitVec 32) (s : State) : Result := storeImm 1 dst off imm s

/-- `sth`: store half word from immediate, `*(u16 *)(rD + off) = imm` (43_load_store.md R315). -/
def execSth (dst : Reg) (off : BitVec 16) (imm : BitVec 32) (s : State) : Result := storeImm 2 dst off imm s

/-- `stw`: store word from immediate, `*(u32 *)(rD + off) = imm` (43_load_store.md R316). -/
def execStw (dst : Reg) (off : BitVec 16) (imm : BitVec 32) (s : State) : Result := storeImm 4 dst off imm s

/-- `stdw`: store double word from immediate, `*(u64 *)(rD + off) = imm` (43_load_store.md R317). -/
def execStdw (dst : Reg) (off : BitVec 16) (imm : BitVec 32) (s : State) : Result := storeImm 8 dst off imm s

/-- `ldxb`: load byte, zero-extended to 64 bits, `rD = *(u8 *)(rS + off)` (43_load_store.md R318). -/
def execLdxb (dst : Reg) (src : Reg) (off : BitVec 16) (s : State) : Result := loadWith 1 zext64 dst src off s

/-- `ldxh`: load half word, zero-extended to 64 bits, `rD = *(u16 *)(rS + off)` (43_load_store.md R319). -/
def execLdxh (dst : Reg) (src : Reg) (off : BitVec 16) (s : State) : Result := loadWith 2 zext64 dst src off s

/-- `ldxw`: load word, zero-extended to 64 bits, `rD = *(u32 *)(rS + off)` (43_load_store.md R320). -/
def execLdxw (dst : Reg) (src : Reg) (off : BitVec 16) (s : State) : Result := loadWith 4 zext64 dst src off s

/-- `ldxdw`: load double word, zero-extended to 64 bits, `rD = *(u64 *)(rS + off)` (43_load_store.md R321). -/
def execLdxdw (dst : Reg) (src : Reg) (off : BitVec 16) (s : State) : Result := loadWith 8 zext64 dst src off s

/-- `ldxsb`: load byte, sign-extended to 64 bits, `rD = *(s8 *)(rS + off)` (43_load_store.md R322). -/
def execLdxsb (dst : Reg) (src : Reg) (off : BitVec 16) (s : State) : Result := loadWith 1 sext64 dst src off s

/-- `ldxsh`: load half word, sign-extended to 64 bits, `rD = *(s16 *)(rS + off)` (43_load_store.md R323). -/
def execLdxsh (dst : Reg) (src : Reg) (off : BitVec 16) (s : State) : Result := loadWith 2 sext64 dst src off s

/-- `ldxsw`: load word, sign-extended to 64 bits, `rD = *(s32 *)(rS + off)` (43_load_store.md R324). -/
def execLdxsw (dst : Reg) (src : Reg) (off : BitVec 16) (s : State) : Result := loadWith 4 sext64 dst src off s

end Sys2Proof.Machine
end

