-- ==== Sys2Proof/Machine/Dispatch.lean ====
section
/-! DEFINITION. One arm per instruction, each a direct call of its meaning. -/

namespace Sys2Proof.Machine

/-- The meaning of a decoded instruction at a state (spec 70_reset_and_hazards.md R444, step 3). -/
def exec (i : Instr) (s : State) : Host.Outcome State Fault Refusal :=
  match i with
  -- 40_alu.md
  | .add32Imm dst imm => Sys2Proof.Machine.execAdd32Imm dst imm s
  | .add32Reg dst src => Sys2Proof.Machine.execAdd32Reg dst src s
  | .add64Imm dst imm => Sys2Proof.Machine.execAdd64Imm dst imm s
  | .add64Reg dst src => Sys2Proof.Machine.execAdd64Reg dst src s
  | .sub32Imm dst imm => Sys2Proof.Machine.execSub32Imm dst imm s
  | .sub32Reg dst src => Sys2Proof.Machine.execSub32Reg dst src s
  | .sub64Imm dst imm => Sys2Proof.Machine.execSub64Imm dst imm s
  | .sub64Reg dst src => Sys2Proof.Machine.execSub64Reg dst src s
  | .mul32Imm dst imm => Sys2Proof.Machine.execMul32Imm dst imm s
  | .mul32Reg dst src => Sys2Proof.Machine.execMul32Reg dst src s
  | .mul64Imm dst imm => Sys2Proof.Machine.execMul64Imm dst imm s
  | .mul64Reg dst src => Sys2Proof.Machine.execMul64Reg dst src s
  | .div32Imm dst imm => Sys2Proof.Machine.execDiv32Imm dst imm s
  | .div32Reg dst src => Sys2Proof.Machine.execDiv32Reg dst src s
  | .div64Imm dst imm => Sys2Proof.Machine.execDiv64Imm dst imm s
  | .div64Reg dst src => Sys2Proof.Machine.execDiv64Reg dst src s
  | .sdiv32Imm dst imm => Sys2Proof.Machine.execSdiv32Imm dst imm s
  | .sdiv32Reg dst src => Sys2Proof.Machine.execSdiv32Reg dst src s
  | .sdiv64Imm dst imm => Sys2Proof.Machine.execSdiv64Imm dst imm s
  | .sdiv64Reg dst src => Sys2Proof.Machine.execSdiv64Reg dst src s
  | .or32Imm dst imm => Sys2Proof.Machine.execOr32Imm dst imm s
  | .or32Reg dst src => Sys2Proof.Machine.execOr32Reg dst src s
  | .or64Imm dst imm => Sys2Proof.Machine.execOr64Imm dst imm s
  | .or64Reg dst src => Sys2Proof.Machine.execOr64Reg dst src s
  | .and32Imm dst imm => Sys2Proof.Machine.execAnd32Imm dst imm s
  | .and32Reg dst src => Sys2Proof.Machine.execAnd32Reg dst src s
  | .and64Imm dst imm => Sys2Proof.Machine.execAnd64Imm dst imm s
  | .and64Reg dst src => Sys2Proof.Machine.execAnd64Reg dst src s
  | .lsh32Imm dst imm => Sys2Proof.Machine.execLsh32Imm dst imm s
  | .lsh32Reg dst src => Sys2Proof.Machine.execLsh32Reg dst src s
  | .lsh64Imm dst imm => Sys2Proof.Machine.execLsh64Imm dst imm s
  | .lsh64Reg dst src => Sys2Proof.Machine.execLsh64Reg dst src s
  | .rsh32Imm dst imm => Sys2Proof.Machine.execRsh32Imm dst imm s
  | .rsh32Reg dst src => Sys2Proof.Machine.execRsh32Reg dst src s
  | .rsh64Imm dst imm => Sys2Proof.Machine.execRsh64Imm dst imm s
  | .rsh64Reg dst src => Sys2Proof.Machine.execRsh64Reg dst src s
  | .neg32 dst => Sys2Proof.Machine.execNeg32 dst s
  | .neg64 dst => Sys2Proof.Machine.execNeg64 dst s
  | .mod32Imm dst imm => Sys2Proof.Machine.execMod32Imm dst imm s
  | .mod32Reg dst src => Sys2Proof.Machine.execMod32Reg dst src s
  | .mod64Imm dst imm => Sys2Proof.Machine.execMod64Imm dst imm s
  | .mod64Reg dst src => Sys2Proof.Machine.execMod64Reg dst src s
  | .smod32Imm dst imm => Sys2Proof.Machine.execSmod32Imm dst imm s
  | .smod32Reg dst src => Sys2Proof.Machine.execSmod32Reg dst src s
  | .smod64Imm dst imm => Sys2Proof.Machine.execSmod64Imm dst imm s
  | .smod64Reg dst src => Sys2Proof.Machine.execSmod64Reg dst src s
  | .xor32Imm dst imm => Sys2Proof.Machine.execXor32Imm dst imm s
  | .xor32Reg dst src => Sys2Proof.Machine.execXor32Reg dst src s
  | .xor64Imm dst imm => Sys2Proof.Machine.execXor64Imm dst imm s
  | .xor64Reg dst src => Sys2Proof.Machine.execXor64Reg dst src s
  | .mov32Imm dst imm => Sys2Proof.Machine.execMov32Imm dst imm s
  | .mov32Reg dst src => Sys2Proof.Machine.execMov32Reg dst src s
  | .mov64Imm dst imm => Sys2Proof.Machine.execMov64Imm dst imm s
  | .mov64Reg dst src => Sys2Proof.Machine.execMov64Reg dst src s
  | .movsx8To32 dst src => Sys2Proof.Machine.execMovsx8To32 dst src s
  | .movsx16To32 dst src => Sys2Proof.Machine.execMovsx16To32 dst src s
  | .movsx8To64 dst src => Sys2Proof.Machine.execMovsx8To64 dst src s
  | .movsx16To64 dst src => Sys2Proof.Machine.execMovsx16To64 dst src s
  | .movsx32To64 dst src => Sys2Proof.Machine.execMovsx32To64 dst src s
  | .arsh32Imm dst imm => Sys2Proof.Machine.execArsh32Imm dst imm s
  | .arsh32Reg dst src => Sys2Proof.Machine.execArsh32Reg dst src s
  | .arsh64Imm dst imm => Sys2Proof.Machine.execArsh64Imm dst imm s
  | .arsh64Reg dst src => Sys2Proof.Machine.execArsh64Reg dst src s
  -- 41_byteswap.md
  | .le16 dst => Sys2Proof.Machine.execLe16 dst s
  | .le32 dst => Sys2Proof.Machine.execLe32 dst s
  | .le64 dst => Sys2Proof.Machine.execLe64 dst s
  | .be16 dst => Sys2Proof.Machine.execBe16 dst s
  | .be32 dst => Sys2Proof.Machine.execBe32 dst s
  | .be64 dst => Sys2Proof.Machine.execBe64 dst s
  | .bswap16 dst => Sys2Proof.Machine.execBswap16 dst s
  | .bswap32 dst => Sys2Proof.Machine.execBswap32 dst s
  | .bswap64 dst => Sys2Proof.Machine.execBswap64 dst s
  -- 42_jump.md
  | .ja off => Sys2Proof.Machine.execJa off s
  | .ja32 imm => Sys2Proof.Machine.execJa32 imm s
  | .jeqImm dst off imm => Sys2Proof.Machine.execJeqImm dst off imm s
  | .jeqReg dst src off => Sys2Proof.Machine.execJeqReg dst src off s
  | .jeq32Imm dst off imm => Sys2Proof.Machine.execJeq32Imm dst off imm s
  | .jeq32Reg dst src off => Sys2Proof.Machine.execJeq32Reg dst src off s
  | .jgtImm dst off imm => Sys2Proof.Machine.execJgtImm dst off imm s
  | .jgtReg dst src off => Sys2Proof.Machine.execJgtReg dst src off s
  | .jgt32Imm dst off imm => Sys2Proof.Machine.execJgt32Imm dst off imm s
  | .jgt32Reg dst src off => Sys2Proof.Machine.execJgt32Reg dst src off s
  | .jgeImm dst off imm => Sys2Proof.Machine.execJgeImm dst off imm s
  | .jgeReg dst src off => Sys2Proof.Machine.execJgeReg dst src off s
  | .jge32Imm dst off imm => Sys2Proof.Machine.execJge32Imm dst off imm s
  | .jge32Reg dst src off => Sys2Proof.Machine.execJge32Reg dst src off s
  | .jsetImm dst off imm => Sys2Proof.Machine.execJsetImm dst off imm s
  | .jsetReg dst src off => Sys2Proof.Machine.execJsetReg dst src off s
  | .jset32Imm dst off imm => Sys2Proof.Machine.execJset32Imm dst off imm s
  | .jset32Reg dst src off => Sys2Proof.Machine.execJset32Reg dst src off s
  | .jneImm dst off imm => Sys2Proof.Machine.execJneImm dst off imm s
  | .jneReg dst src off => Sys2Proof.Machine.execJneReg dst src off s
  | .jne32Imm dst off imm => Sys2Proof.Machine.execJne32Imm dst off imm s
  | .jne32Reg dst src off => Sys2Proof.Machine.execJne32Reg dst src off s
  | .jsgtImm dst off imm => Sys2Proof.Machine.execJsgtImm dst off imm s
  | .jsgtReg dst src off => Sys2Proof.Machine.execJsgtReg dst src off s
  | .jsgt32Imm dst off imm => Sys2Proof.Machine.execJsgt32Imm dst off imm s
  | .jsgt32Reg dst src off => Sys2Proof.Machine.execJsgt32Reg dst src off s
  | .jsgeImm dst off imm => Sys2Proof.Machine.execJsgeImm dst off imm s
  | .jsgeReg dst src off => Sys2Proof.Machine.execJsgeReg dst src off s
  | .jsge32Imm dst off imm => Sys2Proof.Machine.execJsge32Imm dst off imm s
  | .jsge32Reg dst src off => Sys2Proof.Machine.execJsge32Reg dst src off s
  | .jltImm dst off imm => Sys2Proof.Machine.execJltImm dst off imm s
  | .jltReg dst src off => Sys2Proof.Machine.execJltReg dst src off s
  | .jlt32Imm dst off imm => Sys2Proof.Machine.execJlt32Imm dst off imm s
  | .jlt32Reg dst src off => Sys2Proof.Machine.execJlt32Reg dst src off s
  | .jleImm dst off imm => Sys2Proof.Machine.execJleImm dst off imm s
  | .jleReg dst src off => Sys2Proof.Machine.execJleReg dst src off s
  | .jle32Imm dst off imm => Sys2Proof.Machine.execJle32Imm dst off imm s
  | .jle32Reg dst src off => Sys2Proof.Machine.execJle32Reg dst src off s
  | .jsltImm dst off imm => Sys2Proof.Machine.execJsltImm dst off imm s
  | .jsltReg dst src off => Sys2Proof.Machine.execJsltReg dst src off s
  | .jslt32Imm dst off imm => Sys2Proof.Machine.execJslt32Imm dst off imm s
  | .jslt32Reg dst src off => Sys2Proof.Machine.execJslt32Reg dst src off s
  | .jsleImm dst off imm => Sys2Proof.Machine.execJsleImm dst off imm s
  | .jsleReg dst src off => Sys2Proof.Machine.execJsleReg dst src off s
  | .jsle32Imm dst off imm => Sys2Proof.Machine.execJsle32Imm dst off imm s
  | .jsle32Reg dst src off => Sys2Proof.Machine.execJsle32Reg dst src off s
  | .callHelper imm => Sys2Proof.Machine.execCallHelper imm s
  | .callLocal imm => Sys2Proof.Machine.execCallLocal imm s
  | .callBtf imm => Sys2Proof.Machine.execCallBtf imm s
  | .exit => Sys2Proof.Machine.execExit s
  -- 43_load_store.md
  | .stxb dst src off => Sys2Proof.Machine.execStxb dst src off s
  | .stxh dst src off => Sys2Proof.Machine.execStxh dst src off s
  | .stxw dst src off => Sys2Proof.Machine.execStxw dst src off s
  | .stxdw dst src off => Sys2Proof.Machine.execStxdw dst src off s
  | .stb dst off imm => Sys2Proof.Machine.execStb dst off imm s
  | .sth dst off imm => Sys2Proof.Machine.execSth dst off imm s
  | .stw dst off imm => Sys2Proof.Machine.execStw dst off imm s
  | .stdw dst off imm => Sys2Proof.Machine.execStdw dst off imm s
  | .ldxb dst src off => Sys2Proof.Machine.execLdxb dst src off s
  | .ldxh dst src off => Sys2Proof.Machine.execLdxh dst src off s
  | .ldxw dst src off => Sys2Proof.Machine.execLdxw dst src off s
  | .ldxdw dst src off => Sys2Proof.Machine.execLdxdw dst src off s
  | .ldxsb dst src off => Sys2Proof.Machine.execLdxsb dst src off s
  | .ldxsh dst src off => Sys2Proof.Machine.execLdxsh dst src off s
  | .ldxsw dst src off => Sys2Proof.Machine.execLdxsw dst src off s
  -- 44_atomic.md
  | .atomicAdd32 dst src off => Sys2Proof.Machine.execAtomicAdd32 dst src off s
  | .atomicFetchAdd32 dst src off => Sys2Proof.Machine.execAtomicFetchAdd32 dst src off s
  | .atomicOr32 dst src off => Sys2Proof.Machine.execAtomicOr32 dst src off s
  | .atomicFetchOr32 dst src off => Sys2Proof.Machine.execAtomicFetchOr32 dst src off s
  | .atomicAnd32 dst src off => Sys2Proof.Machine.execAtomicAnd32 dst src off s
  | .atomicFetchAnd32 dst src off => Sys2Proof.Machine.execAtomicFetchAnd32 dst src off s
  | .atomicXor32 dst src off => Sys2Proof.Machine.execAtomicXor32 dst src off s
  | .atomicFetchXor32 dst src off => Sys2Proof.Machine.execAtomicFetchXor32 dst src off s
  | .atomicXchg32 dst src off => Sys2Proof.Machine.execAtomicXchg32 dst src off s
  | .atomicCmpxchg32 dst src off => Sys2Proof.Machine.execAtomicCmpxchg32 dst src off s
  | .atomicAdd64 dst src off => Sys2Proof.Machine.execAtomicAdd64 dst src off s
  | .atomicFetchAdd64 dst src off => Sys2Proof.Machine.execAtomicFetchAdd64 dst src off s
  | .atomicOr64 dst src off => Sys2Proof.Machine.execAtomicOr64 dst src off s
  | .atomicFetchOr64 dst src off => Sys2Proof.Machine.execAtomicFetchOr64 dst src off s
  | .atomicAnd64 dst src off => Sys2Proof.Machine.execAtomicAnd64 dst src off s
  | .atomicFetchAnd64 dst src off => Sys2Proof.Machine.execAtomicFetchAnd64 dst src off s
  | .atomicXor64 dst src off => Sys2Proof.Machine.execAtomicXor64 dst src off s
  | .atomicFetchXor64 dst src off => Sys2Proof.Machine.execAtomicFetchXor64 dst src off s
  | .atomicXchg64 dst src off => Sys2Proof.Machine.execAtomicXchg64 dst src off s
  | .atomicCmpxchg64 dst src off => Sys2Proof.Machine.execAtomicCmpxchg64 dst src off s
  -- 45_imm64.md
  | .lddw dst imm nextImm => Sys2Proof.Machine.execLddw dst imm nextImm s
  | .ldMapFd dst imm => Sys2Proof.Machine.execLdMapFd dst imm s
  | .ldMapValueFd dst imm nextImm => Sys2Proof.Machine.execLdMapValueFd dst imm nextImm s
  | .ldVarAddr dst imm => Sys2Proof.Machine.execLdVarAddr dst imm s
  | .ldCodeAddr dst imm => Sys2Proof.Machine.execLdCodeAddr dst imm s
  | .ldMapIdx dst imm => Sys2Proof.Machine.execLdMapIdx dst imm s
  | .ldMapValueIdx dst imm nextImm => Sys2Proof.Machine.execLdMapValueIdx dst imm nextImm s
  -- 46_legacy_packet.md
  | .ldabsw dst src off imm => Sys2Proof.Machine.execLdabsw dst src off imm s
  | .ldabsh dst src off imm => Sys2Proof.Machine.execLdabsh dst src off imm s
  | .ldabsb dst src off imm => Sys2Proof.Machine.execLdabsb dst src off imm s
  | .ldindw dst src off imm => Sys2Proof.Machine.execLdindw dst src off imm s
  | .ldindh dst src off imm => Sys2Proof.Machine.execLdindh dst src off imm s
  | .ldindb dst src off imm => Sys2Proof.Machine.execLdindb dst src off imm s

end Sys2Proof.Machine
end

