-- ==== Sys2Proof/Machine/Fetch.lean ====
section
/-! DEFINITION. Instruction fetch (spec 10_state.md R28, R34; 30_encoding.md R79, R84; 60_exceptions.md R402, R405), and how
the host places an instruction where the next step fetches it (log 18). -/

namespace Sys2Proof.Machine

/-- Fetch and decode the instruction at `pc`: `PcOutOfRange(pc)` outside the program or at a second slot, and
`IllegalInstruction(pc, slot)` at a reserved encoding (30_encoding.md R84; 60_exceptions.md R411). -/
def fetch (s : State) : Except Fault Instr :=
  if s.platform.beginsAt s.pc then
    match s.platform.program.drop s.pc.toNat with
    | [] => .error (.pcOutOfRange s.pc)
    | slot :: rest =>
      match decode s.platform.endian (slot :: rest) with
      | .ok (i, _) => .ok i
      | .error _ => .error (.illegalInstruction s.pc slot)
  else .error (.pcOutOfRange s.pc)

/-- A slot that only advances `pc`: `ja +0` (30_encoding.md R81). -/
def idleSlot (e : Endian) : Slot := (Instr.ja 0).fields.slot e

/-- A program with the given slots at index `n`, so that they begin an instruction: the slots before `n` are kept,
or are idle where the program has none, or all idle where keeping them would make slot `n` a second slot. -/
def placeSlots (e : Endian) (program : List Slot) (n : Nat) (slots : List Slot) : List Slot :=
  let kept := program.take n ++ List.replicate (n - program.length) (idleSlot e)
  let front := if beginsFrom false (kept ++ slots) n then kept else List.replicate n (idleSlot e)
  front ++ slots ++ program.drop (n + slots.length)

/-- The slots of a table word: two for opcode 0x18, else one (30_encoding.md R79). -/
def instructionSlots (e : Endian) (nbits w : Nat) : List Slot :=
  (slotsOfTableWord e nbits w).take (if w % 2 ^ min nbits 8 = 0x18 then 2 else 1)

/-- The state with the instruction of a table word where the next step fetches, and the run not ended (log 18). -/
def State.withInstruction (s : State) (nbits w : Nat) : State :=
  { s with
    platform := { s.platform with
      program := placeSlots s.platform.endian s.platform.program s.pc.toNat
        (instructionSlots s.platform.endian nbits w) }
    result := none }

end Sys2Proof.Machine
end

