-- ==== Sys2Proof/Machine/Step.lean ====
section
/-! DEFINITION. One step of the machine (spec 70_reset_and_hazards.md R444), and the host's way to place an instruction. -/

namespace Sys2Proof.Machine

/-- One step: nothing after the run has ended (log 5); else what the other agents do (log 12), the fetch, and the meaning
of the instruction fetched (70_reset_and_hazards.md R444). DESIGN CHOICE, log 21: what the other agents do before a step is
part of that step, so that where it faults the state that stands (60_exceptions.md R410) is `s`, without their writes. -/
def step (s : State) : Host.Outcome State Fault Refusal :=
  match s.result with
  | some _ => .fault .runEnded
  | none =>
    match fetch s.otherAgents with
    | .error f => .fault f
    | .ok i => exec i s.otherAgents

/-- The state whose next step runs the instruction with the given table word (log 18). -/
def State.withFetchWord (s : State) (nbits w : Nat) : State := s.withInstruction nbits w

end Sys2Proof.Machine
end

