-- ==== Sys2Proof/Safety.lean ====
section
/-! DEFINITION. What the claims about the machine are stated in: the spec's arithmetic on plain numbers, what each
instruction reads, writes and stores, what a step leaves unchanged, the invariant, and the platform's duties. Nothing here is
used by the machine. -/

namespace Sys2Proof.Machine

/-! ### Arithmetic on plain numbers (spec 00_scope.md R7, R9, R10): operands and results are the unsigned readings. -/

/-- The signed reading of the low `w` bits of a number (00_scope.md R7). -/
def Ref.signed (w a : Nat) : Int := if a % 2 ^ w < 2 ^ (w - 1) then a % 2 ^ w else (a % 2 ^ w : Int) - 2 ^ w

/-- The unsigned reading of the low `w` bits of an integer. -/
def Ref.unsigned (w : Nat) (z : Int) : Nat := (z % 2 ^ w).toNat

/-- A number as the contents of a register. -/
def Ref.word (n : Nat) : Word := BitVec.ofNat 64 n

/-- imm sign-extended to 64 bits, as a number (30_encoding.md R74; 92_eei_decisions.md D18). -/
def Ref.imm64 (imm : BitVec 32) : Nat := Ref.unsigned 64 (Ref.signed 32 imm.toNat)

/-- Addition (40_alu.md R108). -/
def Ref.add (_w a b : Nat) : Nat := a + b

/-- Subtraction (40_alu.md R108). -/
def Ref.sub (w a b : Nat) : Nat := Ref.unsigned w ((a : Int) - (b : Int))

/-- Multiplication (40_alu.md R108). -/
def Ref.mul (_w a b : Nat) : Nat := a * b

/-- Unsigned division, 0 by 0 (40_alu.md R103, R105, R108). -/
def Ref.div (_w a b : Nat) : Nat := if b ≠ 0 then a / b else 0

/-- Unsigned remainder, the dividend by 0 (40_alu.md R103, R105, R108). -/
def Ref.mod (_w a b : Nat) : Nat := if b ≠ 0 then a % b else a

/-- Signed division toward zero, wrapping, 0 by 0 (40_alu.md R103, R105, R106, R108). -/
def Ref.sdiv (w a b : Nat) : Nat :=
  if b ≠ 0 then Ref.unsigned w ((Ref.signed w a).tdiv (Ref.signed w b)) else 0

/-- Signed remainder with the sign of the dividend, the dividend by 0 (40_alu.md R103, R105, R106, R108). -/
def Ref.smod (w a b : Nat) : Nat :=
  if b ≠ 0 then Ref.unsigned w (Ref.signed w a - Ref.signed w b * (Ref.signed w a).tdiv (Ref.signed w b)) else a

/-- Bitwise or (40_alu.md R108). -/
def Ref.or (_w a b : Nat) : Nat := a ||| b

/-- Bitwise and (40_alu.md R108). -/
def Ref.and (_w a b : Nat) : Nat := a &&& b

/-- Bitwise exclusive or (40_alu.md R108). -/
def Ref.xor (_w a b : Nat) : Nat := a ^^^ b

/-- Left shift by the amount modulo the width: the masks 0x3F and 0x1F (40_alu.md R107). -/
def Ref.lsh (w a b : Nat) : Nat := a * 2 ^ (b % w)

/-- Right shift filling with zeros (40_alu.md R107). -/
def Ref.rsh (w a b : Nat) : Nat := a / 2 ^ (b % w)

/-- Right shift filling with the sign bit: the floor of the exact quotient (40_alu.md R107). -/
def Ref.arsh (w a b : Nat) : Nat := Ref.unsigned w (Int.fdiv (Ref.signed w a) (2 ^ (b % w)))

/-- The number whose `n` bytes are those of `v` in reverse order (00_scope.md R15). -/
def Ref.byteSwap : (n v : Nat) → Nat
  | 0, _ => 0
  | n + 1, v => v % 256 * 256 ^ n + Ref.byteSwap n (v / 256)

/-- The comparisons of 42_jump.md R224 on the unsigned readings of operands of `w` bits. -/
def Ref.jeq (_w a b : Nat) : Bool := decide (a = b)
/-- Bit inequality (42_jump.md R224). -/
def Ref.jne (_w a b : Nat) : Bool := decide (a ≠ b)
/-- Some bit is set in both (42_jump.md R224). -/
def Ref.jset (w a b : Nat) : Bool := (List.range w).any fun i => a.testBit i && b.testBit i
/-- Unsigned greater (42_jump.md R224). -/
def Ref.jgt (_w a b : Nat) : Bool := decide (b < a)
/-- Unsigned greater or equal (42_jump.md R224). -/
def Ref.jge (_w a b : Nat) : Bool := decide (b ≤ a)
/-- Unsigned less (42_jump.md R224). -/
def Ref.jlt (_w a b : Nat) : Bool := decide (a < b)
/-- Unsigned less or equal (42_jump.md R224). -/
def Ref.jle (_w a b : Nat) : Bool := decide (a ≤ b)
/-- Signed greater (42_jump.md R224). -/
def Ref.jsgt (w a b : Nat) : Bool := decide (Ref.signed w b < Ref.signed w a)
/-- Signed greater or equal (42_jump.md R224). -/
def Ref.jsge (w a b : Nat) : Bool := decide (Ref.signed w b ≤ Ref.signed w a)
/-- Signed less (42_jump.md R224). -/
def Ref.jslt (w a b : Nat) : Bool := decide (Ref.signed w a < Ref.signed w b)
/-- Signed less or equal (42_jump.md R224). -/
def Ref.jsle (w a b : Nat) : Bool := decide (Ref.signed w a ≤ Ref.signed w b)

/-- The position of byte `i` (from the lowest address) of an `n`-byte value, 0 the least significant
(20_memory.md R42). -/
def Ref.position (e : Endian) (n i : Nat) : Nat :=
  match e with
  | .little => i
  | .big => n - 1 - i

/-- The number that `n` bytes stand for, `byte i` the one at offset `i` (20_memory.md R42). -/
def Ref.number (e : Endian) (n : Nat) (byte : Nat → Byte) : Nat :=
  ((List.range n).map fun i => (byte i).toNat * 256 ^ Ref.position e n i).sum

/-- The number that `n` bytes of memory hold (20_memory.md R42). -/
def Ref.loaded (s : State) (addr n : Nat) : Nat := Ref.number s.platform.endian n fun i => s.byteAt (addr + i)

/-- The platform says that a regular access of `n` bytes at `addr` is single-copy atomic, and it is naturally aligned
(20_memory.md R47). -/
abbrev SingleCopy (p : Platform) (addr n : Nat) : Prop :=
  p.atomicOrder.singleCopy = true ∧ n ∈ [1, 2, 4, 8] ∧ addr % n = 0

/-- The address is in a region that other agents may rewrite (60_exceptions.md R419). -/
abbrev Shared (p : Platform) (a : Nat) : Prop := ∃ r ∈ p.regions, r.shared = true ∧ r.base ≤ a ∧ a < r.base + r.size

/-- The number that a regular read of `n` bytes gives: where another agent is writing a byte and the access is not
single-copy atomic, that byte is the draw (20_memory.md R47; log 22). -/
def Ref.read (s : State) (addr n : Nat) : Nat :=
  Ref.number s.platform.endian n fun i =>
    if Shared s.platform (addr + i) ∧ ¬ SingleCopy s.platform addr n then
      (s.racing.lookup (addr + i)).getD (s.byteAt (addr + i))
    else s.byteAt (addr + i)

/-- The byte that a store of the `n`-byte number `v` puts at offset `i` (20_memory.md R42). -/
def Ref.stored (e : Endian) (n v i : Nat) : Byte := BitVec.ofNat 8 (v / 256 ^ Ref.position e n i)

/-- The last byte that a list of writes puts at an address, if it writes there. -/
def Ref.lastWrite (writes : List Host.Cell) (a : Nat) : Option Byte :=
  writes.foldl (fun found c => if c.1 = a then some c.2 else found) none

end Sys2Proof.Machine

namespace Sys2Proof

/-! ### What an instruction reads, writes and stores (spec 10_state.md R23; 30_encoding.md R72, R83). -/

/-- The registers an instruction reads, in the order its rule lists them (60_exceptions.md R403, R411). What a helper
needs and `x[0]` at the outermost `exit` are not fields and stand in their own claims. -/
def Instr.reads : Instr → List Reg
  | .add32Imm dst _ => [dst]
  | .add32Reg dst src => [dst, src]
  | .add64Imm dst _ => [dst]
  | .add64Reg dst src => [dst, src]
  | .sub32Imm dst _ => [dst]
  | .sub32Reg dst src => [dst, src]
  | .sub64Imm dst _ => [dst]
  | .sub64Reg dst src => [dst, src]
  | .mul32Imm dst _ => [dst]
  | .mul32Reg dst src => [dst, src]
  | .mul64Imm dst _ => [dst]
  | .mul64Reg dst src => [dst, src]
  | .div32Imm dst _ => [dst]
  | .div32Reg dst src => [dst, src]
  | .div64Imm dst _ => [dst]
  | .div64Reg dst src => [dst, src]
  | .sdiv32Imm dst _ => [dst]
  | .sdiv32Reg dst src => [dst, src]
  | .sdiv64Imm dst _ => [dst]
  | .sdiv64Reg dst src => [dst, src]
  | .or32Imm dst _ => [dst]
  | .or32Reg dst src => [dst, src]
  | .or64Imm dst _ => [dst]
  | .or64Reg dst src => [dst, src]
  | .and32Imm dst _ => [dst]
  | .and32Reg dst src => [dst, src]
  | .and64Imm dst _ => [dst]
  | .and64Reg dst src => [dst, src]
  | .lsh32Imm dst _ => [dst]
  | .lsh32Reg dst src => [dst, src]
  | .lsh64Imm dst _ => [dst]
  | .lsh64Reg dst src => [dst, src]
  | .rsh32Imm dst _ => [dst]
  | .rsh32Reg dst src => [dst, src]
  | .rsh64Imm dst _ => [dst]
  | .rsh64Reg dst src => [dst, src]
  | .neg32 dst => [dst]
  | .neg64 dst => [dst]
  | .mod32Imm dst _ => [dst]
  | .mod32Reg dst src => [dst, src]
  | .mod64Imm dst _ => [dst]
  | .mod64Reg dst src => [dst, src]
  | .smod32Imm dst _ => [dst]
  | .smod32Reg dst src => [dst, src]
  | .smod64Imm dst _ => [dst]
  | .smod64Reg dst src => [dst, src]
  | .xor32Imm dst _ => [dst]
  | .xor32Reg dst src => [dst, src]
  | .xor64Imm dst _ => [dst]
  | .xor64Reg dst src => [dst, src]
  | .mov32Imm _ _ => []
  | .mov32Reg _ src => [src]
  | .mov64Imm _ _ => []
  | .mov64Reg _ src => [src]
  | .movsx8To32 _ src => [src]
  | .movsx16To32 _ src => [src]
  | .movsx8To64 _ src => [src]
  | .movsx16To64 _ src => [src]
  | .movsx32To64 _ src => [src]
  | .arsh32Imm dst _ => [dst]
  | .arsh32Reg dst src => [dst, src]
  | .arsh64Imm dst _ => [dst]
  | .arsh64Reg dst src => [dst, src]
  | .le16 dst => [dst]
  | .le32 dst => [dst]
  | .le64 dst => [dst]
  | .be16 dst => [dst]
  | .be32 dst => [dst]
  | .be64 dst => [dst]
  | .bswap16 dst => [dst]
  | .bswap32 dst => [dst]
  | .bswap64 dst => [dst]
  | .ja _ => []
  | .ja32 _ => []
  | .jeqImm dst _ _ => [dst]
  | .jeqReg dst src _ => [dst, src]
  | .jeq32Imm dst _ _ => [dst]
  | .jeq32Reg dst src _ => [dst, src]
  | .jgtImm dst _ _ => [dst]
  | .jgtReg dst src _ => [dst, src]
  | .jgt32Imm dst _ _ => [dst]
  | .jgt32Reg dst src _ => [dst, src]
  | .jgeImm dst _ _ => [dst]
  | .jgeReg dst src _ => [dst, src]
  | .jge32Imm dst _ _ => [dst]
  | .jge32Reg dst src _ => [dst, src]
  | .jsetImm dst _ _ => [dst]
  | .jsetReg dst src _ => [dst, src]
  | .jset32Imm dst _ _ => [dst]
  | .jset32Reg dst src _ => [dst, src]
  | .jneImm dst _ _ => [dst]
  | .jneReg dst src _ => [dst, src]
  | .jne32Imm dst _ _ => [dst]
  | .jne32Reg dst src _ => [dst, src]
  | .jsgtImm dst _ _ => [dst]
  | .jsgtReg dst src _ => [dst, src]
  | .jsgt32Imm dst _ _ => [dst]
  | .jsgt32Reg dst src _ => [dst, src]
  | .jsgeImm dst _ _ => [dst]
  | .jsgeReg dst src _ => [dst, src]
  | .jsge32Imm dst _ _ => [dst]
  | .jsge32Reg dst src _ => [dst, src]
  | .jltImm dst _ _ => [dst]
  | .jltReg dst src _ => [dst, src]
  | .jlt32Imm dst _ _ => [dst]
  | .jlt32Reg dst src _ => [dst, src]
  | .jleImm dst _ _ => [dst]
  | .jleReg dst src _ => [dst, src]
  | .jle32Imm dst _ _ => [dst]
  | .jle32Reg dst src _ => [dst, src]
  | .jsltImm dst _ _ => [dst]
  | .jsltReg dst src _ => [dst, src]
  | .jslt32Imm dst _ _ => [dst]
  | .jslt32Reg dst src _ => [dst, src]
  | .jsleImm dst _ _ => [dst]
  | .jsleReg dst src _ => [dst, src]
  | .jsle32Imm dst _ _ => [dst]
  | .jsle32Reg dst src _ => [dst, src]
  | .callHelper _ => []
  | .callLocal _ => []
  | .callBtf _ => []
  | .exit => []
  | .stxb dst src _ => [dst, src]
  | .stxh dst src _ => [dst, src]
  | .stxw dst src _ => [dst, src]
  | .stxdw dst src _ => [dst, src]
  | .stb dst _ _ => [dst]
  | .sth dst _ _ => [dst]
  | .stw dst _ _ => [dst]
  | .stdw dst _ _ => [dst]
  | .ldxb _ src _ => [src]
  | .ldxh _ src _ => [src]
  | .ldxw _ src _ => [src]
  | .ldxdw _ src _ => [src]
  | .ldxsb _ src _ => [src]
  | .ldxsh _ src _ => [src]
  | .ldxsw _ src _ => [src]
  | .atomicAdd32 dst src _ => [dst, src]
  | .atomicFetchAdd32 dst src _ => [dst, src]
  | .atomicOr32 dst src _ => [dst, src]
  | .atomicFetchOr32 dst src _ => [dst, src]
  | .atomicAnd32 dst src _ => [dst, src]
  | .atomicFetchAnd32 dst src _ => [dst, src]
  | .atomicXor32 dst src _ => [dst, src]
  | .atomicFetchXor32 dst src _ => [dst, src]
  | .atomicXchg32 dst src _ => [dst, src]
  | .atomicCmpxchg32 dst src _ => [dst, src, 0]
  | .atomicAdd64 dst src _ => [dst, src]
  | .atomicFetchAdd64 dst src _ => [dst, src]
  | .atomicOr64 dst src _ => [dst, src]
  | .atomicFetchOr64 dst src _ => [dst, src]
  | .atomicAnd64 dst src _ => [dst, src]
  | .atomicFetchAnd64 dst src _ => [dst, src]
  | .atomicXor64 dst src _ => [dst, src]
  | .atomicFetchXor64 dst src _ => [dst, src]
  | .atomicXchg64 dst src _ => [dst, src]
  | .atomicCmpxchg64 dst src _ => [dst, src, 0]
  | .lddw _ _ _ => []
  | .ldMapFd _ _ => []
  | .ldMapValueFd _ _ _ => []
  | .ldVarAddr _ _ => []
  | .ldCodeAddr _ _ => []
  | .ldMapIdx _ _ => []
  | .ldMapValueIdx _ _ _ => []
  | .ldabsw _ _ _ _ => []
  | .ldabsh _ _ _ _ => []
  | .ldabsb _ _ _ _ => []
  | .ldindw _ _ _ _ => []
  | .ldindh _ _ _ _ => []
  | .ldindb _ _ _ _ => []

/-- The register that a field of the instruction names and the instruction writes (30_encoding.md R72, R83). -/
def Instr.target? : Instr → Option Reg
  | .add32Imm dst _ => some dst
  | .add32Reg dst _ => some dst
  | .add64Imm dst _ => some dst
  | .add64Reg dst _ => some dst
  | .sub32Imm dst _ => some dst
  | .sub32Reg dst _ => some dst
  | .sub64Imm dst _ => some dst
  | .sub64Reg dst _ => some dst
  | .mul32Imm dst _ => some dst
  | .mul32Reg dst _ => some dst
  | .mul64Imm dst _ => some dst
  | .mul64Reg dst _ => some dst
  | .div32Imm dst _ => some dst
  | .div32Reg dst _ => some dst
  | .div64Imm dst _ => some dst
  | .div64Reg dst _ => some dst
  | .sdiv32Imm dst _ => some dst
  | .sdiv32Reg dst _ => some dst
  | .sdiv64Imm dst _ => some dst
  | .sdiv64Reg dst _ => some dst
  | .or32Imm dst _ => some dst
  | .or32Reg dst _ => some dst
  | .or64Imm dst _ => some dst
  | .or64Reg dst _ => some dst
  | .and32Imm dst _ => some dst
  | .and32Reg dst _ => some dst
  | .and64Imm dst _ => some dst
  | .and64Reg dst _ => some dst
  | .lsh32Imm dst _ => some dst
  | .lsh32Reg dst _ => some dst
  | .lsh64Imm dst _ => some dst
  | .lsh64Reg dst _ => some dst
  | .rsh32Imm dst _ => some dst
  | .rsh32Reg dst _ => some dst
  | .rsh64Imm dst _ => some dst
  | .rsh64Reg dst _ => some dst
  | .neg32 dst => some dst
  | .neg64 dst => some dst
  | .mod32Imm dst _ => some dst
  | .mod32Reg dst _ => some dst
  | .mod64Imm dst _ => some dst
  | .mod64Reg dst _ => some dst
  | .smod32Imm dst _ => some dst
  | .smod32Reg dst _ => some dst
  | .smod64Imm dst _ => some dst
  | .smod64Reg dst _ => some dst
  | .xor32Imm dst _ => some dst
  | .xor32Reg dst _ => some dst
  | .xor64Imm dst _ => some dst
  | .xor64Reg dst _ => some dst
  | .mov32Imm dst _ => some dst
  | .mov32Reg dst _ => some dst
  | .mov64Imm dst _ => some dst
  | .mov64Reg dst _ => some dst
  | .movsx8To32 dst _ => some dst
  | .movsx16To32 dst _ => some dst
  | .movsx8To64 dst _ => some dst
  | .movsx16To64 dst _ => some dst
  | .movsx32To64 dst _ => some dst
  | .arsh32Imm dst _ => some dst
  | .arsh32Reg dst _ => some dst
  | .arsh64Imm dst _ => some dst
  | .arsh64Reg dst _ => some dst
  | .le16 dst => some dst
  | .le32 dst => some dst
  | .le64 dst => some dst
  | .be16 dst => some dst
  | .be32 dst => some dst
  | .be64 dst => some dst
  | .bswap16 dst => some dst
  | .bswap32 dst => some dst
  | .bswap64 dst => some dst
  | .ja _ => none
  | .ja32 _ => none
  | .jeqImm _ _ _ => none
  | .jeqReg _ _ _ => none
  | .jeq32Imm _ _ _ => none
  | .jeq32Reg _ _ _ => none
  | .jgtImm _ _ _ => none
  | .jgtReg _ _ _ => none
  | .jgt32Imm _ _ _ => none
  | .jgt32Reg _ _ _ => none
  | .jgeImm _ _ _ => none
  | .jgeReg _ _ _ => none
  | .jge32Imm _ _ _ => none
  | .jge32Reg _ _ _ => none
  | .jsetImm _ _ _ => none
  | .jsetReg _ _ _ => none
  | .jset32Imm _ _ _ => none
  | .jset32Reg _ _ _ => none
  | .jneImm _ _ _ => none
  | .jneReg _ _ _ => none
  | .jne32Imm _ _ _ => none
  | .jne32Reg _ _ _ => none
  | .jsgtImm _ _ _ => none
  | .jsgtReg _ _ _ => none
  | .jsgt32Imm _ _ _ => none
  | .jsgt32Reg _ _ _ => none
  | .jsgeImm _ _ _ => none
  | .jsgeReg _ _ _ => none
  | .jsge32Imm _ _ _ => none
  | .jsge32Reg _ _ _ => none
  | .jltImm _ _ _ => none
  | .jltReg _ _ _ => none
  | .jlt32Imm _ _ _ => none
  | .jlt32Reg _ _ _ => none
  | .jleImm _ _ _ => none
  | .jleReg _ _ _ => none
  | .jle32Imm _ _ _ => none
  | .jle32Reg _ _ _ => none
  | .jsltImm _ _ _ => none
  | .jsltReg _ _ _ => none
  | .jslt32Imm _ _ _ => none
  | .jslt32Reg _ _ _ => none
  | .jsleImm _ _ _ => none
  | .jsleReg _ _ _ => none
  | .jsle32Imm _ _ _ => none
  | .jsle32Reg _ _ _ => none
  | .callHelper _ => none
  | .callLocal _ => none
  | .callBtf _ => none
  | .exit => none
  | .stxb _ _ _ => none
  | .stxh _ _ _ => none
  | .stxw _ _ _ => none
  | .stxdw _ _ _ => none
  | .stb _ _ _ => none
  | .sth _ _ _ => none
  | .stw _ _ _ => none
  | .stdw _ _ _ => none
  | .ldxb dst _ _ => some dst
  | .ldxh dst _ _ => some dst
  | .ldxw dst _ _ => some dst
  | .ldxdw dst _ _ => some dst
  | .ldxsb dst _ _ => some dst
  | .ldxsh dst _ _ => some dst
  | .ldxsw dst _ _ => some dst
  | .atomicAdd32 _ _ _ => none
  | .atomicFetchAdd32 _ src _ => some src
  | .atomicOr32 _ _ _ => none
  | .atomicFetchOr32 _ src _ => some src
  | .atomicAnd32 _ _ _ => none
  | .atomicFetchAnd32 _ src _ => some src
  | .atomicXor32 _ _ _ => none
  | .atomicFetchXor32 _ src _ => some src
  | .atomicXchg32 _ src _ => some src
  | .atomicCmpxchg32 _ _ _ => none
  | .atomicAdd64 _ _ _ => none
  | .atomicFetchAdd64 _ src _ => some src
  | .atomicOr64 _ _ _ => none
  | .atomicFetchOr64 _ src _ => some src
  | .atomicAnd64 _ _ _ => none
  | .atomicFetchAnd64 _ src _ => some src
  | .atomicXor64 _ _ _ => none
  | .atomicFetchXor64 _ src _ => some src
  | .atomicXchg64 _ src _ => some src
  | .atomicCmpxchg64 _ _ _ => none
  | .lddw dst _ _ => some dst
  | .ldMapFd dst _ => some dst
  | .ldMapValueFd dst _ _ => some dst
  | .ldVarAddr dst _ => some dst
  | .ldCodeAddr dst _ => some dst
  | .ldMapIdx dst _ => some dst
  | .ldMapValueIdx dst _ _ => some dst
  | .ldabsw _ _ _ _ => none
  | .ldabsh _ _ _ _ => none
  | .ldabsb _ _ _ _ => none
  | .ldindw _ _ _ _ => none
  | .ldindh _ _ _ _ => none
  | .ldindb _ _ _ _ => none

/-- Where an instruction stores: the base register, the offset and the width in bytes; none for an instruction that
stores nothing (43_load_store.md R302; 44_atomic.md R332, R335). Helper calls write memory as the platform says and stand
in their own claims. -/
def Instr.storesAt? : Instr → Option (Reg × BitVec 16 × Nat)
  | .add32Imm _ _ => none
  | .add32Reg _ _ => none
  | .add64Imm _ _ => none
  | .add64Reg _ _ => none
  | .sub32Imm _ _ => none
  | .sub32Reg _ _ => none
  | .sub64Imm _ _ => none
  | .sub64Reg _ _ => none
  | .mul32Imm _ _ => none
  | .mul32Reg _ _ => none
  | .mul64Imm _ _ => none
  | .mul64Reg _ _ => none
  | .div32Imm _ _ => none
  | .div32Reg _ _ => none
  | .div64Imm _ _ => none
  | .div64Reg _ _ => none
  | .sdiv32Imm _ _ => none
  | .sdiv32Reg _ _ => none
  | .sdiv64Imm _ _ => none
  | .sdiv64Reg _ _ => none
  | .or32Imm _ _ => none
  | .or32Reg _ _ => none
  | .or64Imm _ _ => none
  | .or64Reg _ _ => none
  | .and32Imm _ _ => none
  | .and32Reg _ _ => none
  | .and64Imm _ _ => none
  | .and64Reg _ _ => none
  | .lsh32Imm _ _ => none
  | .lsh32Reg _ _ => none
  | .lsh64Imm _ _ => none
  | .lsh64Reg _ _ => none
  | .rsh32Imm _ _ => none
  | .rsh32Reg _ _ => none
  | .rsh64Imm _ _ => none
  | .rsh64Reg _ _ => none
  | .neg32 _ => none
  | .neg64 _ => none
  | .mod32Imm _ _ => none
  | .mod32Reg _ _ => none
  | .mod64Imm _ _ => none
  | .mod64Reg _ _ => none
  | .smod32Imm _ _ => none
  | .smod32Reg _ _ => none
  | .smod64Imm _ _ => none
  | .smod64Reg _ _ => none
  | .xor32Imm _ _ => none
  | .xor32Reg _ _ => none
  | .xor64Imm _ _ => none
  | .xor64Reg _ _ => none
  | .mov32Imm _ _ => none
  | .mov32Reg _ _ => none
  | .mov64Imm _ _ => none
  | .mov64Reg _ _ => none
  | .movsx8To32 _ _ => none
  | .movsx16To32 _ _ => none
  | .movsx8To64 _ _ => none
  | .movsx16To64 _ _ => none
  | .movsx32To64 _ _ => none
  | .arsh32Imm _ _ => none
  | .arsh32Reg _ _ => none
  | .arsh64Imm _ _ => none
  | .arsh64Reg _ _ => none
  | .le16 _ => none
  | .le32 _ => none
  | .le64 _ => none
  | .be16 _ => none
  | .be32 _ => none
  | .be64 _ => none
  | .bswap16 _ => none
  | .bswap32 _ => none
  | .bswap64 _ => none
  | .ja _ => none
  | .ja32 _ => none
  | .jeqImm _ _ _ => none
  | .jeqReg _ _ _ => none
  | .jeq32Imm _ _ _ => none
  | .jeq32Reg _ _ _ => none
  | .jgtImm _ _ _ => none
  | .jgtReg _ _ _ => none
  | .jgt32Imm _ _ _ => none
  | .jgt32Reg _ _ _ => none
  | .jgeImm _ _ _ => none
  | .jgeReg _ _ _ => none
  | .jge32Imm _ _ _ => none
  | .jge32Reg _ _ _ => none
  | .jsetImm _ _ _ => none
  | .jsetReg _ _ _ => none
  | .jset32Imm _ _ _ => none
  | .jset32Reg _ _ _ => none
  | .jneImm _ _ _ => none
  | .jneReg _ _ _ => none
  | .jne32Imm _ _ _ => none
  | .jne32Reg _ _ _ => none
  | .jsgtImm _ _ _ => none
  | .jsgtReg _ _ _ => none
  | .jsgt32Imm _ _ _ => none
  | .jsgt32Reg _ _ _ => none
  | .jsgeImm _ _ _ => none
  | .jsgeReg _ _ _ => none
  | .jsge32Imm _ _ _ => none
  | .jsge32Reg _ _ _ => none
  | .jltImm _ _ _ => none
  | .jltReg _ _ _ => none
  | .jlt32Imm _ _ _ => none
  | .jlt32Reg _ _ _ => none
  | .jleImm _ _ _ => none
  | .jleReg _ _ _ => none
  | .jle32Imm _ _ _ => none
  | .jle32Reg _ _ _ => none
  | .jsltImm _ _ _ => none
  | .jsltReg _ _ _ => none
  | .jslt32Imm _ _ _ => none
  | .jslt32Reg _ _ _ => none
  | .jsleImm _ _ _ => none
  | .jsleReg _ _ _ => none
  | .jsle32Imm _ _ _ => none
  | .jsle32Reg _ _ _ => none
  | .callHelper _ => none
  | .callLocal _ => none
  | .callBtf _ => none
  | .exit => none
  | .stxb dst _ off => some (dst, off, 1)
  | .stxh dst _ off => some (dst, off, 2)
  | .stxw dst _ off => some (dst, off, 4)
  | .stxdw dst _ off => some (dst, off, 8)
  | .stb dst off _ => some (dst, off, 1)
  | .sth dst off _ => some (dst, off, 2)
  | .stw dst off _ => some (dst, off, 4)
  | .stdw dst off _ => some (dst, off, 8)
  | .ldxb _ _ _ => none
  | .ldxh _ _ _ => none
  | .ldxw _ _ _ => none
  | .ldxdw _ _ _ => none
  | .ldxsb _ _ _ => none
  | .ldxsh _ _ _ => none
  | .ldxsw _ _ _ => none
  | .atomicAdd32 dst _ off => some (dst, off, 4)
  | .atomicFetchAdd32 dst _ off => some (dst, off, 4)
  | .atomicOr32 dst _ off => some (dst, off, 4)
  | .atomicFetchOr32 dst _ off => some (dst, off, 4)
  | .atomicAnd32 dst _ off => some (dst, off, 4)
  | .atomicFetchAnd32 dst _ off => some (dst, off, 4)
  | .atomicXor32 dst _ off => some (dst, off, 4)
  | .atomicFetchXor32 dst _ off => some (dst, off, 4)
  | .atomicXchg32 dst _ off => some (dst, off, 4)
  | .atomicCmpxchg32 dst _ off => some (dst, off, 4)
  | .atomicAdd64 dst _ off => some (dst, off, 8)
  | .atomicFetchAdd64 dst _ off => some (dst, off, 8)
  | .atomicOr64 dst _ off => some (dst, off, 8)
  | .atomicFetchOr64 dst _ off => some (dst, off, 8)
  | .atomicAnd64 dst _ off => some (dst, off, 8)
  | .atomicFetchAnd64 dst _ off => some (dst, off, 8)
  | .atomicXor64 dst _ off => some (dst, off, 8)
  | .atomicFetchXor64 dst _ off => some (dst, off, 8)
  | .atomicXchg64 dst _ off => some (dst, off, 8)
  | .atomicCmpxchg64 dst _ off => some (dst, off, 8)
  | .lddw _ _ _ => none
  | .ldMapFd _ _ => none
  | .ldMapValueFd _ _ _ => none
  | .ldVarAddr _ _ => none
  | .ldCodeAddr _ _ => none
  | .ldMapIdx _ _ => none
  | .ldMapValueIdx _ _ _ => none
  | .ldabsw _ _ _ _ => none
  | .ldabsh _ _ _ _ => none
  | .ldabsb _ _ _ _ => none
  | .ldindw _ _ _ _ => none
  | .ldindh _ _ _ _ => none
  | .ldindb _ _ _ _ => none

/-- The 125 opcode bytes that the spec defines (30_encoding.md R78). -/
def definedOpcodes : List (BitVec 8) :=
  [0x04, 0x05, 0x06, 0x07, 0x0c, 0x0f, 0x14, 0x15, 0x16, 0x17, 0x18, 0x1c, 0x1d, 0x1e, 0x1f, 0x20] ++
  [0x24, 0x25, 0x26, 0x27, 0x28, 0x2c, 0x2d, 0x2e, 0x2f, 0x30, 0x34, 0x35, 0x36, 0x37, 0x3c, 0x3d] ++
  [0x3e, 0x3f, 0x40, 0x44, 0x45, 0x46, 0x47, 0x48, 0x4c, 0x4d, 0x4e, 0x4f, 0x50, 0x54, 0x55, 0x56] ++
  [0x57, 0x5c, 0x5d, 0x5e, 0x5f, 0x61, 0x62, 0x63, 0x64, 0x65, 0x66, 0x67, 0x69, 0x6a, 0x6b, 0x6c] ++
  [0x6d, 0x6e, 0x6f, 0x71, 0x72, 0x73, 0x74, 0x75, 0x76, 0x77, 0x79, 0x7a, 0x7b, 0x7c, 0x7d, 0x7e] ++
  [0x7f, 0x81, 0x84, 0x85, 0x87, 0x89, 0x91, 0x94, 0x95, 0x97, 0x9c, 0x9f, 0xa4, 0xa5, 0xa6, 0xa7] ++
  [0xac, 0xad, 0xae, 0xaf, 0xb4, 0xb5, 0xb6, 0xb7, 0xbc, 0xbd, 0xbe, 0xbf, 0xc3, 0xc4, 0xc5, 0xc6] ++
  [0xc7, 0xcc, 0xcd, 0xce, 0xcf, 0xd4, 0xd5, 0xd6, 0xd7, 0xdb, 0xdc, 0xdd, 0xde]

/-- The instructions of class `BPF_ALU` with a 32-bit or 16-bit result: all but the 64-bit byte swaps (40_alu.md R100,
R101; 41_byteswap.md R203), by the class and code of the opcode byte (30_encoding.md R69, R70) and the width in imm. -/
def Instr.isAlu32 (i : Instr) : Bool :=
  i.fields.opcode.extractLsb' 0 3 == 4 && !(i.fields.opcode.extractLsb' 4 4 == 0xd && i.fields.imm == 64)

/-- The instructions whose next state is not given by their fields and the state alone: calls and exit. -/
def Instr.isCall : Instr → Bool
  | .callHelper _ | .callLocal _ | .callBtf _ | .exit => true
  | _ => false

end Sys2Proof

namespace Sys2Proof.Machine

/-! ### What a step leaves unchanged. -/

/-- The program may write the register (30_encoding.md R83). -/
def CanWrite (s : State) (d : Reg) : Prop := d.toNat ≤ 10 ∧ (d.toNat = 10 → s.platform.r10Writable = true)

/-- Every register outside `ds` is as before. -/
def SameRegsExcept (s t : State) (ds : List Reg) : Prop := ∀ r : Reg, r ∉ ds → t.reg r = s.reg r

/-- Every byte of memory reads as before, and memory lists the same bytes. -/
def SameMemory (s t : State) : Prop := t.mem = s.mem ∧ ∀ a : Nat, t.byteAt a = s.byteAt a

/-- The parts no instruction but a call changes: the call stack, the platform, the helper answers and their count, the
other agents' turns and draws, and whether the run has ended. -/
def SameHidden (s t : State) : Prop :=
  t.calls = s.calls ∧ t.platform = s.platform ∧ t.helperCount = s.helperCount ∧
    t.helperReplies = s.helperReplies ∧ t.others = s.others ∧ t.racing = s.racing ∧ t.result = s.result

/-- The step writes one register, goes `n` slots further and changes nothing else. -/
def WritesRegister (s t : State) (d : Reg) (v : Word) (n : Int) : Prop :=
  t.reg d = some v ∧ SameRegsExcept s t [d] ∧ t.pc = s.pc + n ∧ SameMemory s t ∧ SameHidden s t

/-- The step sets `pc` and changes nothing else. -/
def GoesTo (s t : State) (pc : Int) : Prop :=
  t.pc = pc ∧ SameRegsExcept s t [] ∧ SameMemory s t ∧ SameHidden s t

/-- The `n` bytes at `addr` are those of the number `v` in the platform's byte order, and every byte outside them reads
as before. -/
def StoresNumber (s t : State) (addr n v : Nat) : Prop :=
  (∀ i, i < n → t.byteAt (addr + i) = Ref.stored s.platform.endian n v i) ∧
    ∀ a, a < addr ∨ addr + n ≤ a → t.byteAt a = s.byteAt a

/-! ### Claims about families of instructions. -/

/-- Two-operand arithmetic in its four forms: 32-bit and 64-bit, with an immediate and with a register. With `d`
writable and the operands written, each form completes, writes `f` of the operands at its width, and nothing else. -/
def AluClaim (f : Nat → Nat → Nat → Nat) (k32 : Reg → BitVec 32 → Instr) (x32 : Reg → Reg → Instr)
    (k64 : Reg → BitVec 32 → Instr) (x64 : Reg → Reg → Instr) : Prop :=
  ∀ (s : State) (d : Reg) (a : Word), CanWrite s d → s.reg d = some a →
    (∀ imm : BitVec 32,
      (∃ t, exec (k32 d imm) s = .next t ∧
        WritesRegister s t d (Ref.word (f 32 (a.toNat % 2 ^ 32) imm.toNat % 2 ^ 32)) 1) ∧
      (∃ t, exec (k64 d imm) s = .next t ∧ WritesRegister s t d (Ref.word (f 64 a.toNat (Ref.imm64 imm))) 1)) ∧
    (∀ (r : Reg) (b : Word), s.reg r = some b →
      (∃ t, exec (x32 d r) s = .next t ∧
        WritesRegister s t d (Ref.word (f 32 (a.toNat % 2 ^ 32) (b.toNat % 2 ^ 32) % 2 ^ 32)) 1) ∧
      (∃ t, exec (x64 d r) s = .next t ∧ WritesRegister s t d (Ref.word (f 64 a.toNat b.toNat)) 1))

/-- An instruction on one register that it reads and writes: it completes and writes `f` of the old value. -/
def UnaryClaim (f : State → Nat → Nat) (mk : Reg → Instr) : Prop :=
  ∀ (s : State) (d : Reg) (a : Word), CanWrite s d → s.reg d = some a →
    ∃ t, exec (mk d) s = .next t ∧ WritesRegister s t d (Ref.word (f s a.toNat)) 1

/-- A move from a register: the destination need not be written before. -/
def MoveClaim (f : Nat → Nat) (mk : Reg → Reg → Instr) : Prop :=
  ∀ (s : State) (d r : Reg) (b : Word), CanWrite s d → s.reg r = some b →
    ∃ t, exec (mk d r) s = .next t ∧ WritesRegister s t d (Ref.word (f b.toNat)) 1

/-- A conditional jump in its four forms: it completes, goes to the target where the condition holds on the operands at
its width and to the next slot otherwise, and changes nothing else. -/
def JumpClaim (c : Nat → Nat → Nat → Bool) (k32 : Reg → BitVec 16 → BitVec 32 → Instr)
    (x32 : Reg → Reg → BitVec 16 → Instr) (k64 : Reg → BitVec 16 → BitVec 32 → Instr)
    (x64 : Reg → Reg → BitVec 16 → Instr) : Prop :=
  ∀ (s : State) (d : Reg) (a : Word) (off : BitVec 16), s.reg d = some a →
    (∀ imm : BitVec 32,
      (∃ t, exec (k32 d off imm) s = .next t ∧
        GoesTo s t (if c 32 (a.toNat % 2 ^ 32) imm.toNat then s.pc + 1 + Ref.signed 16 off.toNat else s.pc + 1)) ∧
      (∃ t, exec (k64 d off imm) s = .next t ∧
        GoesTo s t (if c 64 a.toNat (Ref.imm64 imm) then s.pc + 1 + Ref.signed 16 off.toNat else s.pc + 1))) ∧
    (∀ (r : Reg) (b : Word), s.reg r = some b →
      (∃ t, exec (x32 d r off) s = .next t ∧
        GoesTo s t (if c 32 (a.toNat % 2 ^ 32) (b.toNat % 2 ^ 32) then s.pc + 1 + Ref.signed 16 off.toNat
          else s.pc + 1)) ∧
      (∃ t, exec (x64 d r off) s = .next t ∧
        GoesTo s t (if c 64 a.toNat b.toNat then s.pc + 1 + Ref.signed 16 off.toNat else s.pc + 1)))

/-- A load of `n` bytes: with `d` writable, the base written and the access admitted it completes and writes `f` of
the number that a regular read of the bytes gives. -/
def LoadClaim (n : Nat) (f : Nat → Nat) (mk : Reg → Reg → BitVec 16 → Instr) : Prop :=
  ∀ (s : State) (d r : Reg) (off : BitVec 16) (base : Word), CanWrite s d → s.reg r = some base →
    s.platform.admits (effectiveAddress base off) n .read = true →
    ∃ t, exec (mk d r off) s = .next t ∧
      WritesRegister s t d (Ref.word (f (Ref.read s (effectiveAddress base off).toNat n))) 1

/-- What a store of the low `n` bytes of `v` at an address does, and that it does nothing else. -/
def StoreStep (s t : State) (addr : Word) (n v : Nat) : Prop :=
  StoresNumber s t addr.toNat n v ∧ SameRegsExcept s t [] ∧ t.pc = s.pc + 1 ∧ SameHidden s t

/-- A store of `n` bytes from a register and from an immediate, the access admitted. -/
def StoreClaim (n : Nat) (fromReg : Reg → Reg → BitVec 16 → Instr) (fromImm : Reg → BitVec 16 → BitVec 32 → Instr) :
    Prop :=
  ∀ (s : State) (d : Reg) (off : BitVec 16) (base : Word), s.reg d = some base →
    s.platform.admits (effectiveAddress base off) n .write = true →
    (∀ imm : BitVec 32, ∃ t, exec (fromImm d off imm) s = .next t ∧
      StoreStep s t (effectiveAddress base off) n (Ref.imm64 imm)) ∧
    (∀ (r : Reg) (v : Word), s.reg r = some v → ∃ t, exec (fromReg d r off) s = .next t ∧
      StoreStep s t (effectiveAddress base off) n v.toNat)

/-- What an atomic operation on `n` bytes at an address does to the state when it leaves the number `new` there and
writes the registers of `ds`. -/
def AtomicStep (s t : State) (addr : Word) (n new : Nat) (ds : List Reg) : Prop :=
  StoresNumber s t addr.toNat n new ∧ SameRegsExcept s t ds ∧ t.pc = s.pc + 1 ∧ SameHidden s t

/-- An atomic operation on `n` bytes without and with fetch, the access admitted: the new value is `f` of the old one and
the operand, and the fetching form also gives the old value, zero-extended, to its operand register. -/
def AtomicClaim (n : Nat) (f : Nat → Nat → Nat → Nat) (plain fetching : Reg → Reg → BitVec 16 → Instr) : Prop :=
  ∀ (s : State) (d r : Reg) (off : BitVec 16) (base v : Word), s.reg d = some base → s.reg r = some v →
    s.platform.admits (effectiveAddress base off) n .atomic = true →
    let old := Ref.loaded s (effectiveAddress base off).toNat n
    let new := f (8 * n) old (v.toNat % 2 ^ (8 * n)) % 2 ^ (8 * n)
    (∃ t, exec (plain d r off) s = .next t ∧ AtomicStep s t (effectiveAddress base off) n new []) ∧
    (CanWrite s r → ∃ t, exec (fetching d r off) s = .next t ∧
      AtomicStep s t (effectiveAddress base off) n new [r] ∧ t.reg r = some (Ref.word old))

/-- An exchange of `n` bytes: memory takes the operand, the operand register the old value, zero-extended. -/
def ExchangeClaim (n : Nat) (mk : Reg → Reg → BitVec 16 → Instr) : Prop :=
  ∀ (s : State) (d r : Reg) (off : BitVec 16) (base v : Word), s.reg d = some base → s.reg r = some v → CanWrite s r →
    s.platform.admits (effectiveAddress base off) n .atomic = true →
    ∃ t, exec (mk d r off) s = .next t ∧
      AtomicStep s t (effectiveAddress base off) n (v.toNat % 2 ^ (8 * n)) [r] ∧
      t.reg r = some (Ref.word (Ref.loaded s (effectiveAddress base off).toNat n))

/-- A compare and exchange of `n` bytes: memory takes the operand where it equals the low bits of `x[0]` and keeps its
bytes otherwise; `x[0]` takes the old value, zero-extended, either way. -/
def CompareExchangeClaim (n : Nat) (mk : Reg → Reg → BitVec 16 → Instr) : Prop :=
  ∀ (s : State) (d r : Reg) (off : BitVec 16) (base v expected : Word), s.reg d = some base → s.reg r = some v →
    s.reg 0 = some expected → s.platform.admits (effectiveAddress base off) n .atomic = true →
    let old := Ref.loaded s (effectiveAddress base off).toNat n
    ∃ t, exec (mk d r off) s = .next t ∧ t.reg 0 = some (Ref.word old) ∧
      (old = expected.toNat % 2 ^ (8 * n) →
        AtomicStep s t (effectiveAddress base off) n (v.toNat % 2 ^ (8 * n)) [0]) ∧
      (old ≠ expected.toNat % 2 ^ (8 * n) → WritesRegister s t 0 (Ref.word old) 1)

/-- A helper call whose helper the table defines, needs, for its id and in this call, only argument registers that are
written, and returns: it completes; `x[0]` takes the result, `x[1]` to `x[5]` become unwritten, memory holds what the helper wrote, and nothing else changes. -/
def HelperClaim (table : State → HelperTable) (btf : Bool) (mk : BitVec 32 → Instr) : Prop :=
  ∀ (s : State) (id : BitVec 32) (needs more : List Reg) (result : Word) (writes : List Host.Cell),
    (table s).needs? id = some needs → s.helperReply btf id = ⟨more, .returns result writes⟩ →
    (∀ r ∈ ([1, 2, 3, 4, 5] : List Reg), r ∈ needs ∨ r ∈ more → (s.reg r).isSome = true) →
    ∃ t, exec (mk id) s = .next t ∧ t.reg 0 = some result ∧
      (∀ r ∈ ([1, 2, 3, 4, 5] : List Reg), t.reg r = none) ∧ SameRegsExcept s t [0, 1, 2, 3, 4, 5] ∧
      t.pc = s.pc + 1 ∧
      (∀ a, a < addressCount → t.byteAt a = (Ref.lastWrite writes a).getD (s.byteAt a)) ∧
      t.calls = s.calls ∧ t.platform = s.platform ∧ t.others = s.others ∧ t.racing = s.racing ∧
      t.result = s.result ∧ t.helperCount = s.helperCount + 1 ∧ t.helperReplies = s.helperReplies.tail

/-- A 64-bit immediate instruction that asks the platform: it completes with the platform's answer. -/
def LookupClaim (answer : State → BitVec 32 → Option Word) (mk : Reg → BitVec 32 → Instr) : Prop :=
  ∀ (s : State) (d : Reg) (imm : BitVec 32) (v : Word), CanWrite s d → answer s imm = some v →
    ∃ t, exec (mk d imm) s = .next t ∧ WritesRegister s t d v 2

/-- A 64-bit immediate instruction that adds an unsigned offset to the first value of a map. -/
def MapValueClaim (map : State → BitVec 32 → Option Word) (mk : Reg → BitVec 32 → BitVec 32 → Instr) : Prop :=
  ∀ (s : State) (d : Reg) (imm nextImm : BitVec 32) (m v : Word), CanWrite s d → map s imm = some m →
    s.platform.mapVal? m = some v →
    ∃ t, exec (mk d imm nextImm) s = .next t ∧ WritesRegister s t d (Ref.word (v.toNat + nextImm.toNat)) 2

/-! ### The invariant and the platform's duties. -/

/-- The frame pointers of the outstanding calls: each function runs `stackSize` bytes below its caller
(42_jump.md R229). -/
def framesLinked (stackSize : Nat) : (current : Option Word) → List CallRecord → Bool
  | _, [] => true
  | current, r :: rest =>
    current == r.fp.map (fun fp => fp - BitVec.ofNat 64 stackSize) && framesLinked stackSize r.fp rest

/-- What every step keeps: memory is in its canonical form, no more calls are outstanding than `MAX_CALL_DEPTH`
(10_state.md R32), the frame pointers are linked where the program may not write `x[10]` (10_state.md R25), and a run that
has ended has its result in `x[0]` and no call outstanding (60_exceptions.md R410). -/
def Inv (s : State) : Prop :=
  Memory.wf s.mem = true ∧ s.calls.length ≤ s.platform.maxCallDepth ∧
    (s.platform.r10Writable = false → framesLinked s.platform.stackSize (s.reg 10) s.calls = true) ∧
    (∀ v, s.result = some v → s.reg 0 = some v ∧ s.calls = [])

/-- The platform's duties before entry (70_reset_and_hazards.md R440, R442): a program of at most `MAX_INSNS` slots,
`x[1]` and `x[10]` written, and a stack area below `x[10]`, a multiple of 8, that is admitted for reads and writes of every
width (at every address where `MISALIGNED_OK`, at aligned ones otherwise: 20_memory.md R46) and does not wrap; code
addresses, where listed, for every slot and all different (45_imm64.md R374). No step checks them (log 19). -/
def Platform.Dutiful (p : Platform) : Prop :=
  (∀ m, p.maxInsns = some m → p.program.length ≤ m) ∧
  (∃ v, p.entryRegs.lookup 1 = some v) ∧
  (∃ t : Word, p.entryRegs.lookup 10 = some t ∧ t.toNat % 8 = 0 ∧ (p.maxCallDepth + 1) * p.stackSize ≤ t.toNat ∧
    ∀ (addr : Word) (n : Nat) (kind : AccessKind), n ∈ [1, 2, 4, 8] → kind ≠ .atomic →
      p.misalignedOk = true ∨ addr.toNat % n = 0 →
      t.toNat - (p.maxCallDepth + 1) * p.stackSize ≤ addr.toNat → addr.toNat + n ≤ t.toNat →
      p.admits addr n kind = true) ∧
  (∀ vs, p.codeAddrs = some vs → p.program.length ≤ vs.length ∧ vs.Nodup)

end Sys2Proof.Machine
end

