-- ==== Sys2Proof/Certificates/Slice0/Obligations.lean ====
section
/-! DEFINITION. The statements for the provers. Each says what the spec's rules say of the machine; where one rests on a
decision of the spec or on a choice of the model its docstring names the decision or the log entry. -/

open Sys2Proof Sys2Proof.Machine

/-- The wrapping sum, difference and product (40_alu.md R102). Derived: the sign extension of imm in the 64-bit
forms is decision D18 (log 15). -/
def Obligations.WrappingArithmetic : Prop :=
  AluClaim Ref.add .add32Imm .add32Reg .add64Imm .add64Reg ∧
  AluClaim Ref.sub .sub32Imm .sub32Reg .sub64Imm .sub64Reg ∧
  AluClaim Ref.mul .mul32Imm .mul32Reg .mul64Imm .mul64Reg

/-- Unsigned division and remainder (40_alu.md R103, R104, R105). Derived: the test at the operation's width is the
spec's own inference in R103. -/
def Obligations.UnsignedDivision : Prop :=
  AluClaim Ref.div .div32Imm .div32Reg .div64Imm .div64Reg ∧
  AluClaim Ref.mod .mod32Imm .mod32Reg .mod64Imm .mod64Reg

/-- Signed division and remainder. Derived: decisions D14 and D15 (log 15). -/
def Obligations.SignedDivision : Prop :=
  AluClaim Ref.sdiv .sdiv32Imm .sdiv32Reg .sdiv64Imm .sdiv64Reg ∧
  AluClaim Ref.smod .smod32Imm .smod32Reg .smod64Imm .smod64Reg

/-- The bitwise operations. Derived: the sign extension of imm in the 64-bit forms is decision D18 (log 15). -/
def Obligations.BitwiseOperations : Prop :=
  AluClaim Ref.or .or32Imm .or32Reg .or64Imm .or64Reg ∧
  AluClaim Ref.and .and32Imm .and32Reg .and64Imm .and64Reg ∧
  AluClaim Ref.xor .xor32Imm .xor32Reg .xor64Imm .xor64Reg

/-- The shifts (40_alu.md R107). -/
def Obligations.ShiftAmounts : Prop :=
  AluClaim Ref.lsh .lsh32Imm .lsh32Reg .lsh64Imm .lsh64Reg ∧
  AluClaim Ref.rsh .rsh32Imm .rsh32Reg .rsh64Imm .rsh64Reg ∧
  AluClaim Ref.arsh .arsh32Imm .arsh32Reg .arsh64Imm .arsh64Reg

/-- Negation (40_alu.md R102, R146, R147). -/
def Obligations.Negation : Prop :=
  UnaryClaim (fun _ a => Ref.sub 32 0 (a % 2 ^ 32)) .neg32 ∧ UnaryClaim (fun _ a => Ref.sub 64 0 a) .neg64

/-- The moves (40_alu.md R160 to R163). Derived: the sign extension of imm is decision D18 (log 15). -/
def Obligations.Moves : Prop :=
  (∀ (s : State) (d : Reg) (imm : BitVec 32), CanWrite s d →
    (∃ t, exec (.mov32Imm d imm) s = .next t ∧ WritesRegister s t d (Ref.word imm.toNat) 1) ∧
    (∃ t, exec (.mov64Imm d imm) s = .next t ∧ WritesRegister s t d (Ref.word (Ref.imm64 imm)) 1)) ∧
  MoveClaim (fun b => b % 2 ^ 32) .mov32Reg ∧ MoveClaim (fun b => b) .mov64Reg

/-- The sign-extending moves (40_alu.md R164 to R168). -/
def Obligations.SignExtendingMoves : Prop :=
  MoveClaim (fun b => Ref.unsigned 32 (Ref.signed 8 b)) .movsx8To32 ∧
  MoveClaim (fun b => Ref.unsigned 32 (Ref.signed 16 b)) .movsx16To32 ∧
  MoveClaim (fun b => Ref.unsigned 64 (Ref.signed 8 b)) .movsx8To64 ∧
  MoveClaim (fun b => Ref.unsigned 64 (Ref.signed 16 b)) .movsx16To64 ∧
  MoveClaim (fun b => Ref.unsigned 64 (Ref.signed 32 b)) .movsx32To64

/-- The destination of a 32-bit operation (40_alu.md R101). le64 and be64 are of the same class and have 64-bit
results (41_byteswap.md R203). That the others complete, and with which 32-bit result, say the result statements. -/
def Obligations.Alu32ZeroesUpperHalf : Prop :=
  (∀ (i : Instr) (s t : State) (d : Reg) (v : Word), i.isAlu32 = true → i.target? = some d → exec i s = .next t →
    t.reg d = some v → v.toNat < 2 ^ 32) ∧
  (∀ (s : State) (d r : Reg) (a b : Word), CanWrite s d → s.reg d = some a → s.reg r = some b →
    ∃ t, exec (.add32Reg d r) s = .next t ∧
      t.reg d = some (Ref.word ((a.toNat % 2 ^ 32 + b.toNat % 2 ^ 32) % 2 ^ 32))) ∧
  (∀ (s : State) (d : Reg) (a : Word) (imm : BitVec 32), CanWrite s d → s.reg d = some a →
    ∃ t, exec (.xor32Imm d imm) s = .next t ∧ t.reg d = some (Ref.word ((a.toNat % 2 ^ 32) ^^^ imm.toNat)))

/-- The byte swaps (41_byteswap.md R202, R205 to R213). Derived: the zeroed upper bits are decision D16 (log 15). -/
def Obligations.ByteSwaps : Prop :=
  UnaryClaim (fun s a => if s.platform.endian = .little then a % 2 ^ 16 else Ref.byteSwap 2 (a % 2 ^ 16)) .le16 ∧
  UnaryClaim (fun s a => if s.platform.endian = .little then a % 2 ^ 32 else Ref.byteSwap 4 (a % 2 ^ 32)) .le32 ∧
  UnaryClaim (fun s a => if s.platform.endian = .little then a % 2 ^ 64 else Ref.byteSwap 8 (a % 2 ^ 64)) .le64 ∧
  UnaryClaim (fun s a => if s.platform.endian = .little then Ref.byteSwap 2 (a % 2 ^ 16) else a % 2 ^ 16) .be16 ∧
  UnaryClaim (fun s a => if s.platform.endian = .little then Ref.byteSwap 4 (a % 2 ^ 32) else a % 2 ^ 32) .be32 ∧
  UnaryClaim (fun s a => if s.platform.endian = .little then Ref.byteSwap 8 (a % 2 ^ 64) else a % 2 ^ 64) .be64 ∧
  UnaryClaim (fun _ a => Ref.byteSwap 2 (a % 2 ^ 16)) .bswap16 ∧
  UnaryClaim (fun _ a => Ref.byteSwap 4 (a % 2 ^ 32)) .bswap32 ∧
  UnaryClaim (fun _ a => Ref.byteSwap 8 (a % 2 ^ 64)) .bswap64

/-- The unconditional jumps (42_jump.md R230, R231). Derived: unit and base of the displacement are decision D3 (log
15); pc is an integer (log 4). -/
def Obligations.UnconditionalJumps : Prop :=
  ∀ s : State,
    (∀ off : BitVec 16, ∃ t, exec (.ja off) s = .next t ∧ GoesTo s t (s.pc + 1 + Ref.signed 16 off.toNat)) ∧
    (∀ imm : BitVec 32, ∃ t, exec (.ja32 imm) s = .next t ∧ GoesTo s t (s.pc + 1 + Ref.signed 32 imm.toNat))

/-- Jumps on equality and on common bits (42_jump.md R224). Derived: decisions D3 and D18 (log 15). -/
def Obligations.EqualityJumps : Prop :=
  JumpClaim Ref.jeq .jeq32Imm .jeq32Reg .jeqImm .jeqReg ∧
  JumpClaim Ref.jne .jne32Imm .jne32Reg .jneImm .jneReg ∧
  JumpClaim Ref.jset .jset32Imm .jset32Reg .jsetImm .jsetReg

/-- Jumps on unsigned comparison (42_jump.md R224). Derived: decisions D3 and D18 (log 15). -/
def Obligations.UnsignedJumps : Prop :=
  JumpClaim Ref.jgt .jgt32Imm .jgt32Reg .jgtImm .jgtReg ∧
  JumpClaim Ref.jge .jge32Imm .jge32Reg .jgeImm .jgeReg ∧
  JumpClaim Ref.jlt .jlt32Imm .jlt32Reg .jltImm .jltReg ∧
  JumpClaim Ref.jle .jle32Imm .jle32Reg .jleImm .jleReg

/-- Jumps on signed comparison (42_jump.md R224). Derived: decisions D3 and D18 (log 15). -/
def Obligations.SignedJumps : Prop :=
  JumpClaim Ref.jsgt .jsgt32Imm .jsgt32Reg .jsgtImm .jsgtReg ∧
  JumpClaim Ref.jsge .jsge32Imm .jsge32Reg .jsgeImm .jsgeReg ∧
  JumpClaim Ref.jslt .jslt32Imm .jslt32Reg .jsltImm .jsltReg ∧
  JumpClaim Ref.jsle .jsle32Imm .jsle32Reg .jsleImm .jsleReg

/-- Helper calls (42_jump.md R228, R276, R278). Derived: decision D22 (log 15); the answer is a listed one or a free
value (log 8), and holds whatever that value is. -/
def Obligations.HelperCalls : Prop :=
  HelperClaim (fun s => s.platform.helpers) false .callHelper ∧
  HelperClaim (fun s => s.platform.btfHelpers) true .callBtf

/-- Where a helper call stops (60_exceptions.md R407, R403, R404, R409, R411). Derived: decisions D22 and D29 (log
9, log 15); helper answers are log 8, and the reason of a helper that declines is log 23. -/
def Obligations.HelperFaults : Prop :=
  ∀ (s : State) (id : BitVec 32) (mk : BitVec 32 → Instr) (table : HelperTable) (btf : Bool),
    (mk = .callHelper ∧ table = s.platform.helpers ∧ btf = false ∨
      mk = .callBtf ∧ table = s.platform.btfHelpers ∧ btf = true) →
    (table.needs? id = none → exec (mk id) s = .fault (.unknownHelper id)) ∧
    (∀ (needs more : List Reg) (answer : HelperAnswer), table.needs? id = some needs →
      s.helperReply btf id = ⟨more, answer⟩ →
      (∀ r ∈ ([1, 2, 3, 4, 5] : List Reg), r ∈ needs ∨ r ∈ more → s.reg r = none →
        (∀ q ∈ ([1, 2, 3, 4, 5] : List Reg), q.toNat < r.toNat → q ∈ needs ∨ q ∈ more → (s.reg q).isSome = true) →
        exec (mk id) s = .fault (.unwrittenRegister r)) ∧
      ((∀ q ∈ ([1, 2, 3, 4, 5] : List Reg), q ∈ needs ∨ q ∈ more → (s.reg q).isSome = true) →
        (∀ addr n kind, answer = .memFault addr n kind → exec (mk id) s = .fault (.memFault addr n kind)) ∧
        (answer = .declines → exec (mk id) s = .fault (.refused .helperDeclined))))

/-- Program-local calls (42_jump.md R229, R277). Derived: decisions D4, D23 and D24, the default call convention
(log 15, log 16). -/
def Obligations.CallLocal : Prop :=
  ∀ (s : State) (imm : BitVec 32),
    (s.calls.length < s.platform.maxCallDepth →
      ∃ t, exec (.callLocal imm) s = .next t ∧
        t.calls = { ret := s.pc + 1, r6 := s.reg 6, r7 := s.reg 7, r8 := s.reg 8, r9 := s.reg 9, fp := s.reg 10 } ::
          s.calls ∧
        (∀ r ∈ ([6, 7, 8, 9] : List Reg), t.reg r = none) ∧
        t.reg 10 = (s.reg 10).map (fun fp => BitVec.ofInt 64 ((fp.toNat : Int) - s.platform.stackSize)) ∧
        SameRegsExcept s t [6, 7, 8, 9, 10] ∧ t.pc = s.pc + 1 + Ref.signed 32 imm.toNat ∧ SameMemory s t ∧
        t.platform = s.platform ∧ t.helperCount = s.helperCount ∧ t.helperReplies = s.helperReplies ∧
        t.others = s.others ∧ t.racing = s.racing ∧ t.result = s.result) ∧
    (s.platform.maxCallDepth ≤ s.calls.length → exec (.callLocal imm) s = .fault .callDepthExceeded)

/-- Return from a program-local function (42_jump.md R229, R279). Derived: decisions D10 and D23 (log 15, log 16).
-/
def Obligations.ExitReturns : Prop :=
  ∀ (s : State) (c : CallRecord) (rest : List CallRecord), s.calls = c :: rest →
    ∃ t, exec .exit s = .next t ∧ t.calls = rest ∧ t.pc = c.ret ∧
      t.reg 6 = c.r6 ∧ t.reg 7 = c.r7 ∧ t.reg 8 = c.r8 ∧ t.reg 9 = c.r9 ∧ t.reg 10 = c.fp ∧
      (∀ r ∈ ([1, 2, 3, 4, 5] : List Reg), t.reg r = none) ∧ t.reg 0 = s.reg 0 ∧ SameMemory s t ∧
      t.platform = s.platform ∧ t.helperCount = s.helperCount ∧ t.helperReplies = s.helperReplies ∧
      t.others = s.others ∧ t.racing = s.racing ∧ t.result = s.result

/-- The end of a run (42_jump.md R279; 70_reset_and_hazards.md R441). Derived: decision D10; that a run's end is a
next state with a result and that no step follows it is the model's rendering (log 5). -/
def Obligations.ExitEndsTheRun : Prop :=
  ∀ s : State,
    (∀ v, s.calls = [] → s.reg 0 = some v →
      ∃ t, exec .exit s = .next t ∧ t.result = some v ∧ SameRegsExcept s t [] ∧ t.pc = s.pc ∧ SameMemory s t ∧
        t.calls = [] ∧ t.platform = s.platform ∧ t.helperCount = s.helperCount ∧
        t.helperReplies = s.helperReplies ∧ t.others = s.others ∧ t.racing = s.racing ∧
        step t = .fault .runEnded) ∧
    (s.calls = [] → s.reg 0 = none → exec .exit s = .fault (.unwrittenRegister 0))

/-- What a caller may rely on across a program-local call (42_jump.md R229; 70_reset_and_hazards.md R448). Derived:
decision D23 (log 16). -/
def Obligations.CallThenReturnRestores : Prop :=
  ∀ (s s1 s2 t : State) (imm : BitVec 32), exec (.callLocal imm) s = .next s1 → s2.calls = s1.calls →
    exec .exit s2 = .next t →
    t.pc = s.pc + 1 ∧ t.calls = s.calls ∧ (∀ r ∈ ([6, 7, 8, 9, 10] : List Reg), t.reg r = s.reg r) ∧
      t.reg 0 = s2.reg 0 ∧ (∀ r ∈ ([1, 2, 3, 4, 5] : List Reg), t.reg r = none) ∧ SameMemory s2 t

/-- The zero-extending loads (43_load_store.md R302, R303, R318 to R321). Derived: byte order, admission and address
width are decisions D2, D12, D13 (log 15). What a race gives is decision D21 (20_memory.md R47; log 22). -/
def Obligations.ZeroExtendingLoads : Prop :=
  LoadClaim 1 (fun v => v) .ldxb ∧
  LoadClaim 2 (fun v => v) .ldxh ∧
  LoadClaim 4 (fun v => v) .ldxw ∧
  LoadClaim 8 (fun v => v) .ldxdw

/-- The sign-extending loads (43_load_store.md R303, R322 to R324). Derived: decisions D2, D12, D13 (log 15). What a
race gives is decision D21 (20_memory.md R47; log 22). -/
def Obligations.SignExtendingLoads : Prop :=
  LoadClaim 1 (fun v => Ref.unsigned 64 (Ref.signed 8 v)) .ldxsb ∧
  LoadClaim 2 (fun v => Ref.unsigned 64 (Ref.signed 16 v)) .ldxsh ∧
  LoadClaim 4 (fun v => Ref.unsigned 64 (Ref.signed 32 v)) .ldxsw

/-- The stores (43_load_store.md R302, R303, R310 to R317). Derived: decisions D2, D12, D13, D18 (log 15). -/
def Obligations.Stores : Prop :=
  StoreClaim 1 .stxb .stb ∧
  StoreClaim 2 .stxh .sth ∧
  StoreClaim 4 .stxw .stw ∧
  StoreClaim 8 .stxdw .stdw

/-- Program order of a program's own accesses (20_memory.md R42, R51 a). Derived: decisions D2 and D21 (log 15);
draws are log 22. -/
def Obligations.LoadAfterStore : Prop :=
  ∀ (s : State) (addr : Word) (n : Nat) (v : BitVec (8 * n)), addr.toNat + n ≤ addressCount →
    (s.memWrite addr n v).memRead addr n = v ∧
    ((∀ i, i < n → s.racing.lookup (addr.toNat + i) = none ∨ ¬ Shared s.platform (addr.toNat + i)) →
      (s.memWrite addr n v).regularRead addr n = v)

/-- Mixed-width access (20_memory.md R43, the spec's own inference from R42). Derived: decision D2 (log 15). -/
def Obligations.NarrowReadOfWideStore : Prop :=
  (∀ (s : State) (addr : Word) (n m i : Nat) (v : BitVec (8 * n)), i + m ≤ n → addr.toNat + n ≤ addressCount →
    (s.memWrite addr n v).memRead (addr + BitVec.ofNat 64 i) m =
      (match s.platform.endian with
        | .little => v.extractLsb' (8 * i) (8 * m)
        | .big => v.extractLsb' (8 * (n - i - m)) (8 * m))) ∧
  (∀ (s : State) (addr : Word) (n m i j : Nat) (v : BitVec (8 * m)), i + m ≤ n → j < n →
    addr.toNat + n ≤ addressCount →
    ((s.memWrite (addr + BitVec.ofNat 64 i) m v).memRead addr n).extractLsb' (8 * Ref.position s.platform.endian n j) 8 =
      if i ≤ j ∧ j < i + m then v.extractLsb' (8 * Ref.position s.platform.endian m (j - i)) 8
      else (s.memRead addr n).extractLsb' (8 * Ref.position s.platform.endian n j) 8)

/-- Admission (20_memory.md R41, R45, R46). Derived: decisions D12, D13, D20; regions are the model's form of Admit
(log 14). -/
def Obligations.Admission : Prop :=
  ∀ (p : Platform) (addr : Word) (n : Nat) (kind : AccessKind),
    p.admits addr n kind = true ↔
      addr.toNat + n ≤ 2 ^ 64 ∧ ((kind ≠ .atomic ∧ p.misalignedOk = true) ∨ addr.toNat % n = 0) ∧
        ∃ r ∈ p.regions, r.base ≤ addr.toNat ∧ addr.toNat + n ≤ r.base + r.size ∧
          n ∈ (match kind with
            | .read => r.reads
            | .write => r.writes
            | .atomic => r.atomics)

/-- The simple atomic operations (44_atomic.md R332, R333, R337). Derived: decisions D2, D12, D19, D20 (log 15). -/
def Obligations.AtomicReadModifyWrite : Prop :=
  AtomicClaim 4 Ref.add .atomicAdd32 .atomicFetchAdd32 ∧
  AtomicClaim 8 Ref.add .atomicAdd64 .atomicFetchAdd64 ∧
  AtomicClaim 4 Ref.or .atomicOr32 .atomicFetchOr32 ∧
  AtomicClaim 8 Ref.or .atomicOr64 .atomicFetchOr64 ∧
  AtomicClaim 4 Ref.and .atomicAnd32 .atomicFetchAnd32 ∧
  AtomicClaim 8 Ref.and .atomicAnd64 .atomicFetchAnd64 ∧
  AtomicClaim 4 Ref.xor .atomicXor32 .atomicFetchXor32 ∧
  AtomicClaim 8 Ref.xor .atomicXor64 .atomicFetchXor64

/-- Exchange (44_atomic.md R334). Derived: decisions D2, D12, D19, D20 (log 15). -/
def Obligations.AtomicExchange : Prop :=
  ExchangeClaim 4 .atomicXchg32 ∧ ExchangeClaim 8 .atomicXchg64

/-- Compare and exchange (44_atomic.md R335, R349, R359). Derived: the comparison at the width of the operation is
decision D19; also D2, D12, D20 (log 15). -/
def Obligations.AtomicCompareExchange : Prop :=
  CompareExchangeClaim 4 .atomicCmpxchg32 ∧ CompareExchangeClaim 8 .atomicCmpxchg64

/-- The 64-bit immediate (30_encoding.md R68). -/
def Obligations.LoadImmediate64 : Prop :=
  ∀ (s : State) (d : Reg) (imm nextImm : BitVec 32), CanWrite s d →
    ∃ t, exec (.lddw d imm nextImm) s = .next t ∧
      WritesRegister s t d (Ref.word (nextImm.toNat * 2 ^ 32 + imm.toNat)) 2

/-- The 64-bit immediates that ask the platform (45_imm64.md R372, R373, R379 to R381, R383, R384). Derived:
decision D27 (log 15); an unlisted address of a total table is a free value (log 10), and the statement holds
whatever it is. -/
def Obligations.PlatformAddresses : Prop :=
  LookupClaim (fun s => s.platform.mapByFd?) .ldMapFd ∧ LookupClaim (fun s => s.platform.mapByIdx?) .ldMapIdx ∧
  LookupClaim (fun s => s.platform.varAddr?) .ldVarAddr ∧
  MapValueClaim (fun s => s.platform.mapByFd?) .ldMapValueFd ∧
  MapValueClaim (fun s => s.platform.mapByIdx?) .ldMapValueIdx

/-- Code addresses (45_imm64.md R374, R382). Derived: decision D5 (log 15); the values are free and injective (log
11), and what a refusal's reason holds is the model's choice (log 23). -/
def Obligations.CodeAddresses : Prop :=
  (∀ (s : State) (d : Reg) (imm : BitVec 32), CanWrite s d →
    (∀ v, s.platform.codeAddr? (s.pc + 1 + Ref.signed 32 imm.toNat) = some v →
      ∃ t, exec (.ldCodeAddr d imm) s = .next t ∧ WritesRegister s t d v 2) ∧
    (s.platform.beginsAt (s.pc + 1 + Ref.signed 32 imm.toNat) = false →
      exec (.ldCodeAddr d imm) s = .fault (.refused (.codeAddr (s.pc + 1 + Ref.signed 32 imm.toNat))))) ∧
  (∀ (p : Platform) (n : Nat), p.beginsAt n = true →
    (∀ vs, p.codeAddrs = some vs → p.codeAddr? n = vs[n]?) ∧
    (p.codeAddrs = none → (p.codeAddr? n).isSome = true ∧
      ∀ m : Nat, p.beginsAt m = true → n < 2 ^ 64 → m < 2 ^ 64 → p.codeAddr? n = p.codeAddr? m → n = m))

/-- Undefined platform functions (45_imm64.md R372; 60_exceptions.md R409 b). Derived: decision D27 (log 10, log
15); what a refusal's reason holds is the model's choice (log 23). -/
def Obligations.PlatformLookups : Prop :=
  (∀ (w : Nat) (table : AddrTable w) (free : BitVec w → Word) (key : BitVec w),
    (∀ (before after : List (BitVec w × Word)) (a : Word), table.rows = before ++ (key, a) :: after → (∀ row ∈ before, row.1 ≠ key) →
      table.at? free key = some a) ∧
    ((∀ row ∈ table.rows, row.1 ≠ key) → table.total = false → table.at? free key = none)) ∧
  (∀ (s : State) (d : Reg) (imm nextImm : BitVec 32), CanWrite s d →
    (s.platform.mapByFd? imm = none → exec (.ldMapFd d imm) s = .fault (.refused (.mapByFd imm)) ∧
      exec (.ldMapValueFd d imm nextImm) s = .fault (.refused (.mapByFd imm))) ∧
    (s.platform.mapByIdx? imm = none → exec (.ldMapIdx d imm) s = .fault (.refused (.mapByIdx imm)) ∧
      exec (.ldMapValueIdx d imm nextImm) s = .fault (.refused (.mapByIdx imm))) ∧
    (s.platform.varAddr? imm = none → exec (.ldVarAddr d imm) s = .fault (.refused (.varAddr imm))) ∧
    (∀ m, s.platform.mapVal? m = none →
      (s.platform.mapByFd? imm = some m → exec (.ldMapValueFd d imm nextImm) s = .fault (.refused (.mapVal m))) ∧
      (s.platform.mapByIdx? imm = some m → exec (.ldMapValueIdx d imm nextImm) s = .fault (.refused (.mapVal m)))))

/-- The legacy instructions (46_legacy_packet.md R390, R393 to R398). Derived: decision D26 (log 15, log 20); the
reason's form is the model's choice (log 23). -/
def Obligations.LegacyRefused : Prop :=
  ∀ (dst src : Reg) (off : BitVec 16) (imm : BitVec 32) (s : State) (second : Option Fields),
    (∀ (op : BitVec 8) (mk : Reg → Reg → BitVec 16 → BitVec 32 → Instr),
      (op, mk) ∈ ([(0x20, .ldabsw), (0x28, .ldabsh), (0x30, .ldabsb), (0x40, .ldindw), (0x48, .ldindh),
        (0x50, .ldindb)] : List (BitVec 8 × (Reg → Reg → BitVec 16 → BitVec 32 → Instr))) →
      decodeFields ⟨op, dst, src, off, imm⟩ second = .ok (mk dst src off imm) ∧
        exec (mk dst src off imm) s = .fault (.refused .legacyPacket))

/-- The read-only frame pointer (60_exceptions.md R408, R411; 30_encoding.md R83). Derived: decisions D7 and D29
(log 15). -/
def Obligations.ReadOnlyRegisterTen : Prop :=
  ∀ (i : Instr) (s : State), i.wf = true → i.target? = some 10 → s.platform.r10Writable = false →
    exec i s = .fault .readOnlyRegister

/-- Unwritten registers (10_state.md R26; 60_exceptions.md R403, R411). Derived: decisions D8 and D29 (log 15). -/
def Obligations.UnwrittenRegisterReads : Prop :=
  ∀ (i : Instr) (s : State) (before after : List Reg) (r : Reg), i.wf = true →
    (∀ d, i.target? = some d → CanWrite s d) → i.reads = before ++ r :: after →
    (∀ q ∈ before, (s.reg q).isSome = true) → s.reg r = none → exec i s = .fault (.unwrittenRegister r)

/-- Memory faults (60_exceptions.md R404; 20_memory.md R45). Derived: decisions D12 and D29 (log 14, log 15). -/
def Obligations.AccessesNotAdmitted : Prop :=
  (∀ (i : Instr) (s : State) (d : Reg) (off : BitVec 16) (n : Nat) (base : Word),
    i.storesAt? = some (d, off, n) → (∀ q, i.target? = some q → CanWrite s q) →
    (∀ q ∈ i.reads, (s.reg q).isSome = true) → s.reg d = some base →
    (i.fields.opcode.extractLsb' 5 3 = 6 → s.platform.admits (effectiveAddress base off) n .atomic = false →
      exec i s = .fault (.memFault (effectiveAddress base off) n .atomic)) ∧
    (i.fields.opcode.extractLsb' 5 3 ≠ 6 → s.platform.admits (effectiveAddress base off) n .write = false →
      exec i s = .fault (.memFault (effectiveAddress base off) n .write))) ∧
  (∀ (s : State) (d r : Reg) (off : BitVec 16) (base : Word) (n : Nat) (mk : Reg → Reg → BitVec 16 → Instr),
    (n, mk) ∈ ([(1, .ldxb), (2, .ldxh), (4, .ldxw), (8, .ldxdw), (1, .ldxsb), (2, .ldxsh), (4, .ldxsw)] :
      List (Nat × (Reg → Reg → BitVec 16 → Instr))) →
    CanWrite s d → s.reg r = some base → s.platform.admits (effectiveAddress base off) n .read = false →
    exec (mk d r off) s = .fault (.memFault (effectiveAddress base off) n .read))

/-- The registers an instruction writes (10_state.md R23). Derived: what calls do to registers is decisions D22 and
D23 (log 15, log 16). -/
def Obligations.RegisterFrame : Prop :=
  ∀ (i : Instr) (s t : State) (r : Reg), exec i s = .next t → i.target? ≠ some r →
    (r = 0 → ¬ ∃ d q off, i = .atomicCmpxchg32 d q off ∨ i = .atomicCmpxchg64 d q off) →
    (r.toNat ≤ 5 → ¬ ∃ id, i = .callHelper id ∨ i = .callBtf id) →
    (6 ≤ r.toNat → ¬ ∃ imm, i = .callLocal imm) →
    (1 ≤ r.toNat → i = .exit → s.calls = []) →
    t.reg r = s.reg r

/-- The bytes an instruction stores to (43_load_store.md R302; 44_atomic.md R332). Derived: rests on decision D13
for the address (log 15). -/
def Obligations.MemoryFrame : Prop :=
  ∀ (i : Instr) (s t : State), exec i s = .next t → (¬ ∃ id, i = .callHelper id ∨ i = .callBtf id) →
    (i.storesAt? = none → ∀ a, t.byteAt a = s.byteAt a) ∧
    (∀ d off n base, i.storesAt? = some (d, off, n) → s.reg d = some base →
      ∀ a, a < (effectiveAddress base off).toNat ∨ (effectiveAddress base off).toNat + n ≤ a →
        t.byteAt a = s.byteAt a)

/-- What advances pc (10_state.md R28) and what touches the call stack (R32). Derived: pc counts slots by decision
D3 (log 15). -/
def Obligations.ControlFrame : Prop :=
  ∀ (i : Instr) (s t : State), exec i s = .next t → i.isCall = false →
    SameHidden s t ∧
      (i.fields.opcode.extractLsb' 0 3 ≠ 5 → i.fields.opcode.extractLsb' 0 3 ≠ 6 → t.pc = s.pc + i.slots)

/-- Program text and platform tables are fixed for a run (10_state.md R34, R35; 20_memory.md R53). Derived: decision
D30 (log 1, log 15). -/
def Obligations.StepKeepsPlatform : Prop :=
  ∀ s t : State, step s = .next t → t.platform = s.platform

/-- Multi-byte fields (30_encoding.md R63). -/
def Obligations.FieldByteOrder : Prop :=
  ∀ b : Slot,
    (b.fields .little).off.toNat = b.b2.toNat + 256 * b.b3.toNat ∧
    (b.fields .little).imm.toNat = b.b4.toNat + 256 * b.b5.toNat + 256 ^ 2 * b.b6.toNat + 256 ^ 3 * b.b7.toNat ∧
    (b.fields .big).off.toNat = b.b3.toNat + 256 * b.b2.toNat ∧
    (b.fields .big).imm.toNat = b.b7.toNat + 256 * b.b6.toNat + 256 ^ 2 * b.b5.toNat + 256 ^ 3 * b.b4.toNat

/-- The decoder inverts the encoder (30_encoding.md R60 to R84). Derived: the formats' zero fields are decision D6
(log 15). -/
def Obligations.DecodeEncode : Prop :=
  ∀ (e : Endian) (i : Instr) (rest : List Slot), i.wf = true → decode e (encode e i ++ rest) = .ok (i, rest)

/-- No bit of a slot is ignored by the decoder (30_encoding.md R66, R77, R84). Derived: decision D6 (log 15); that
legacy instructions carry every field is the model's choice (log 20). -/
def Obligations.EncodeDecode : Prop :=
  ∀ (e : Endian) (slots rest : List Slot) (i : Instr), decode e slots = .ok (i, rest) →
    i.wf = true ∧ slots = encode e i ++ rest

/-- The reserved opcode bytes (30_encoding.md R78, R80). Derived: the list of R80 is the spec's own inference from
R78, and what a reserved byte does is decision D6 (log 15). -/
def Obligations.ReservedOpcodeBytes : Prop :=
  (∀ (f : Fields) (second : Option Fields),
    decodeFields f second = .error .unknownOpcode ↔ f.opcode ∉ definedOpcodes) ∧
  definedOpcodes.Nodup ∧ definedOpcodes.length = 125

/-- Words written out from the spec's encodings (30_encoding.md R61, R62; the examples of R112, R259, R321, R313,
R341, R205, R277, R378). -/
def Obligations.DecodedWords : Prop :=
  decodeBytes .little [0x07, 0x01, 0x00, 0x00, 0x44, 0x33, 0x22, 0x11] = .ok (.add64Imm 1 0x11223344, []) ∧
  decodeBytes .big [0x07, 0x10, 0x00, 0x00, 0x11, 0x22, 0x33, 0x44] = .ok (.add64Imm 1 0x11223344, []) ∧
  decodeBytes .little [0x7e, 0x21, 0x04, 0x00, 0, 0, 0, 0] = .ok (.jsge32Reg 1 2 4, []) ∧
  decodeBytes .little [0x79, 0x21, 0x08, 0x00, 0, 0, 0, 0] = .ok (.ldxdw 1 2 8, []) ∧
  decodeBytes .little [0x7b, 0x21, 0x08, 0x00, 0, 0, 0, 0] = .ok (.stxdw 1 2 8, []) ∧
  decodeBytes .little [0xc3, 0x21, 0x08, 0x00, 0x01, 0, 0, 0] = .ok (.atomicFetchAdd32 1 2 8, []) ∧
  decodeBytes .big [0xd4, 0x10, 0x00, 0x00, 0, 0, 0, 0x10] = .ok (.le16 1, []) ∧
  decodeBytes .little [0x85, 0x10, 0x00, 0x00, 0x04, 0, 0, 0] = .ok (.callLocal 4, []) ∧
  decodeBytes .little [0x18, 0x01, 0, 0, 0x88, 0x77, 0x66, 0x55, 0, 0, 0, 0, 0x44, 0x33, 0x22, 0x11] =
    .ok (.lddw 1 0x55667788 0x11223344, [])

/-- One step (70_reset_and_hazards.md R444; 60_exceptions.md R419). Derived: decisions D11 and D34 (log 12, log 15);
draws are log 22. -/
def Obligations.StepRunsDecoded : Prop :=
  ∀ (s : State) (i : Instr) (rest : List Slot), s.result = none → s.platform.beginsAt s.pc = true →
    decode s.platform.endian (s.platform.program.drop s.pc.toNat) = .ok (i, rest) →
    step s = exec i s.otherAgents ∧ (s.others = [] → s.otherAgents = { s with racing := [] }) ∧
      s.otherAgents.others = s.others.tail ∧ (∀ r, s.otherAgents.reg r = s.reg r) ∧ s.otherAgents.pc = s.pc ∧
      s.otherAgents.calls = s.calls ∧ s.otherAgents.platform = s.platform ∧ s.otherAgents.result = s.result ∧
      s.otherAgents.helperCount = s.helperCount ∧ s.otherAgents.helperReplies = s.helperReplies ∧
      (∀ a, ¬ Shared s.platform a → s.otherAgents.byteAt a = s.byteAt a) ∧
      (∀ turn later, s.others = turn :: later → s.otherAgents.racing = turn.racing ∧
        ∀ a, a < addressCount → Shared s.platform a →
          s.otherAgents.byteAt a = (Ref.lastWrite (turn.cells s.platform) a).getD (s.byteAt a))

/-- Faults of the fetch (60_exceptions.md R402, R405). Derived: decisions D6 and D11 (log 15). -/
def Obligations.StepFaultsAtFetch : Prop :=
  ∀ s : State, s.result = none →
    (s.platform.beginsAt s.pc = false → step s = .fault (.pcOutOfRange s.pc)) ∧
    (∀ slot rest x, s.platform.beginsAt s.pc = true → s.platform.program.drop s.pc.toNat = slot :: rest →
      decode s.platform.endian (slot :: rest) = .error x → step s = .fault (.illegalInstruction s.pc slot))

/-- Which slots begin an instruction (30_encoding.md R79). Derived: decision D11 (log 15). -/
def Obligations.InstructionStarts : Prop :=
  ∀ p : Platform,
    (p.program ≠ [] → p.beginsAt 0 = true) ∧
    (∀ pc : Int, pc < 0 ∨ (p.program.length : Int) ≤ pc → p.beginsAt pc = false) ∧
    (∀ (n : Nat) (slot : Slot), p.beginsAt n = true → p.program[n]? = some slot →
      (slot.b0 = 0x18 → p.beginsAt (n + 1 : Nat) = false ∧
        (n + 2 < p.program.length → p.beginsAt (n + 2 : Nat) = true)) ∧
      (slot.b0 ≠ 0x18 → n + 1 < p.program.length → p.beginsAt (n + 1 : Nat) = true))

/-- The invariant of a run (10_state.md R25, R32; 42_jump.md R229; 60_exceptions.md R410). Derived: decisions D7,
D23, D24 (log 15, log 16); the canonical form is the model's (log 6), the result field too (log 5). -/
def Obligations.StepKeepsInvariant : Prop :=
  ∀ s t : State, Inv s → step s = .next t → Inv t

/-- Inv holds at program entry (70_reset_and_hazards.md R440). Derived: what memory is at reset is the model's
choice (log 2, log 6). -/
def Obligations.ResetMeetsInvariant : Prop :=
  Inv State.reset ∧ ∀ (p : Platform) (m : List Host.Cell), Memory.wf m = true → Inv (State.entry p m)

/-- Program entry (70_reset_and_hazards.md R440; 10_state.md R36). Derived: decision D9 (log 15); the platform of
reset and its register values are the model's choice (log 2, log 3), and so are the lists of other agents' turns and
draws (log 12, log 22). -/
def Obligations.EntryState : Prop :=
  (∀ (p : Platform) (m : List Host.Cell),
    (State.entry p m).pc = 0 ∧ (State.entry p m).calls = [] ∧ (State.entry p m).mem = m ∧
      (State.entry p m).platform = p ∧ (State.entry p m).result = none ∧
      (State.entry p m).others = [] ∧ (State.entry p m).racing = [] ∧
      ∀ r : Reg, (State.entry p m).reg r = if r.toNat ≤ 10 then p.entryRegs.lookup r else none) ∧
  State.reset = State.entry Platform.atReset [] ∧ (∀ r : Reg, r.toNat ≤ 10 → (State.reset.reg r).isSome = true)

/-- The duties of 70_reset_and_hazards.md R440 and R442, where misaligned accesses are not admitted and where they are
(20_memory.md R46). Derived: decision D9; the platform of reset is the model's
choice (log 2), and so are the values of R1 and R10 in it (log 3). -/
def Obligations.ResetPlatformDutiful : Prop :=
  Platform.Dutiful Platform.atReset ∧ Platform.Dutiful { Platform.atReset with misalignedOk := true }

/-- The canonical form of memory is the model's own (DESIGN CHOICE, log 6); the operations are those of 20_memory.md
R42. -/
def Obligations.MemoryCanonical : Prop :=
  ∀ s : State, Memory.wf s.mem = true →
    (∀ (addr : Word) (n : Nat) (v : BitVec (8 * n)), addr.toNat + n ≤ addressCount →
      Memory.wf (s.memWrite addr n v).mem = true) ∧
    (∀ writes : List Host.Cell, Memory.wf (Memory.apply s.mem writes) = true) ∧
    Memory.wf s.otherAgents.mem = true

/-- Racing reads (20_memory.md R47). Derived: decision D21 (log 15); the draws are a list that other agents' turns
supply, the model's choice (log 22). -/
def Obligations.RacingReads : Prop :=
  ∀ (s : State) (addr : Word) (n : Nat),
    ((∀ i, i < n → s.racing.lookup (addr.toNat + i) = none ∨ ¬ Shared s.platform (addr.toNat + i)) →
      s.regularRead addr n = s.memRead addr n) ∧
    (SingleCopy s.platform addr.toNat n → s.regularRead addr n = s.memRead addr n) ∧
    ((∀ i, i < n → Shared s.platform (addr.toNat + i)) → ¬ SingleCopy s.platform addr.toNat n →
      ∀ v : BitVec (8 * n), ∃ draws, ({ s with racing := draws } : State).regularRead addr n = v)

/-- Whole accesses of other agents (20_memory.md R47, R51 b). Derived: decisions D21 and D34 (log 15); the form of a
turn is the model's choice (log 12). -/
def Obligations.AgentWritesLand : Prop :=
  (∀ (p : Platform) (w : AgentWrite) (a : Nat) (b : Byte),
    (a, b) ∈ w.cells p ↔ ∃ i, w.bytes[i]? = some b ∧ a = w.addr + i ∧
      (w.atomic = true ∨ SingleCopy p w.addr w.bytes.length ∨ i ∈ w.landed)) ∧
  (∀ (s : State) (w : AgentWrite) (draws : List Host.Cell) (rest : List AgentTurn),
    s.others = ⟨[w], draws⟩ :: rest → (w.atomic = true ∨ SingleCopy s.platform w.addr w.bytes.length) →
    w.addr + w.bytes.length ≤ addressCount → (∀ i, i < w.bytes.length → Shared s.platform (w.addr + i)) →
    ∀ i, i < w.bytes.length → w.bytes[i]? = some (s.otherAgents.byteAt (w.addr + i)))
end

