-- ==== Sys2Proof/Laws/Decode.lean ====
section
/-! SUPPORT. What the steps of the decoder answer: the fields of a slot and the slot of the fields, and the checks of
30_encoding.md R84 from both sides. -/

namespace Sys2Proof

/-- Reading the fields of the slot that holds them gives them back (30_encoding.md R61 to R63). -/
@[simp] theorem Fields.fields_slot (e : Endian) (f : Fields) : (f.slot e).fields e = f := by
  obtain ⟨op, dst, src, off, imm⟩ := f
  cases e <;> simp only [Fields.slot, Slot.fields] <;> congr 1 <;>
    (apply BitVec.eq_of_getElem_eq; intro i hi
     simp only [BitVec.getElem_append, BitVec.getElem_extractLsb', BitVec.getLsbD_append]
     interval_cases i <;> simp [← BitVec.getLsbD_eq_getElem])

/-- No bit of a slot is lost in its fields (30_encoding.md R61 to R63). -/
@[simp] theorem Slot.slot_fields (e : Endian) (s : Slot) : (s.fields e).slot e = s := by
  obtain ⟨b0, b1, b2, b3, b4, b5, b6, b7⟩ := s
  cases e <;> simp only [Fields.slot, Slot.fields] <;> congr 1 <;>
    (apply BitVec.eq_of_getElem_eq; intro i hi
     simp only [BitVec.getElem_append, BitVec.getElem_extractLsb', BitVec.getLsbD_append]
     interval_cases i <;> simp [← BitVec.getLsbD_eq_getElem])

/-- Steps 5 and 6 of 30_encoding.md R84 pass exactly where the unused fields are zero and the registers exist. -/
theorem accept_eq_ok {unusedZero : Bool} {regs : List Reg} {i j : Instr} :
    accept unusedZero regs i = .ok j ↔ unusedZero = true ∧ regs.all Reg.valid = true ∧ i = j := by
  unfold accept fieldError?
  cases unusedZero
  · simp
  · cases regs.all Reg.valid <;> simp

/-- The decoder's answer where both checks pass; the instruction's meaning in the opcode map unfolds by `rfl`. -/
theorem accept_ok {unusedZero : Bool} {regs : List Reg} (hz : unusedZero = true) (hr : regs.all Reg.valid = true)
    (i : Instr) : accept unusedZero regs i = .ok i :=
  accept_eq_ok.mpr ⟨hz, hr, rfl⟩

/-- Step 4 of 30_encoding.md R84 passes only where the selector is one of the rows'. -/
theorem select_ok {α : Type} {sel : Nat} {rows : List (Nat × α)} {k : α → Except DecodeError Instr} {i : Instr}
    (h : select sel rows k = .ok i) : ∃ row, rows.lookup sel = some row ∧ k row = .ok i := by
  unfold select at h
  split at h
  · exact ⟨_, ‹_›, h⟩
  · cases h

/-- Step 7 of 30_encoding.md R84: a second slot that passes has zero fields but for `next_imm`. -/
theorem acceptSecond_ok {second : Option Fields} {mustBeZero : Bool} {k : BitVec 32 → Instr} {i : Instr}
    (h : acceptSecond second mustBeZero k = .ok i) :
    ∃ next, second = some ⟨0, 0, 0, 0, next⟩ ∧ (mustBeZero = true → next = 0) ∧ i = k next := by
  unfold acceptSecond at h
  split at h
  · cases h
  · rename_i g
    obtain ⟨op, dst, src, off, imm⟩ := g
    split at h
    · rename_i hg
      simp only [Bool.and_eq_true, beq_iff_eq, Bool.or_eq_true, Bool.not_eq_true'] at hg
      obtain ⟨⟨⟨⟨rfl, rfl⟩, rfl⟩, rfl⟩, hn⟩ := hg
      exact ⟨imm, rfl, fun hm => by simpa [hm] using hn, (Except.ok.inj h).symm⟩
    · cases h

end Sys2Proof
end

