-- ==== Sys2Proof/Laws/State.lean ====
section
/-! SUPPORT. One lemma per field of State per update, all true by unfolding, so that no proof unfolds a record update; and
reading a register after registers have been set. -/

namespace Sys2Proof.Machine

@[simp] theorem State.setReg_x (s : State) (r : Reg) (v : Option Word) : (s.setReg r v).x = Registers.set s.x r v := rfl
@[simp] theorem State.setReg_pc (s : State) (r : Reg) (v : Option Word) : (s.setReg r v).pc = s.pc := rfl
@[simp] theorem State.setReg_calls (s : State) (r : Reg) (v : Option Word) : (s.setReg r v).calls = s.calls := rfl
@[simp] theorem State.setReg_mem (s : State) (r : Reg) (v : Option Word) : (s.setReg r v).mem = s.mem := rfl
@[simp] theorem State.setReg_platform (s : State) (r : Reg) (v : Option Word) : (s.setReg r v).platform = s.platform := rfl
@[simp] theorem State.setReg_result (s : State) (r : Reg) (v : Option Word) : (s.setReg r v).result = s.result := rfl
@[simp] theorem State.setReg_helperCount (s : State) (r : Reg) (v : Option Word) : (s.setReg r v).helperCount = s.helperCount := rfl
@[simp] theorem State.setReg_helperReplies (s : State) (r : Reg) (v : Option Word) : (s.setReg r v).helperReplies = s.helperReplies := rfl
@[simp] theorem State.setReg_others (s : State) (r : Reg) (v : Option Word) : (s.setReg r v).others = s.others := rfl
@[simp] theorem State.setReg_racing (s : State) (r : Reg) (v : Option Word) : (s.setReg r v).racing = s.racing := rfl

@[simp] theorem State.advance_x (s : State) (n : Int) : (s.advance n).x = s.x := rfl
@[simp] theorem State.advance_pc (s : State) (n : Int) : (s.advance n).pc = s.pc + n := rfl
@[simp] theorem State.advance_calls (s : State) (n : Int) : (s.advance n).calls = s.calls := rfl
@[simp] theorem State.advance_mem (s : State) (n : Int) : (s.advance n).mem = s.mem := rfl
@[simp] theorem State.advance_platform (s : State) (n : Int) : (s.advance n).platform = s.platform := rfl
@[simp] theorem State.advance_result (s : State) (n : Int) : (s.advance n).result = s.result := rfl
@[simp] theorem State.advance_helperCount (s : State) (n : Int) : (s.advance n).helperCount = s.helperCount := rfl
@[simp] theorem State.advance_helperReplies (s : State) (n : Int) : (s.advance n).helperReplies = s.helperReplies := rfl
@[simp] theorem State.advance_others (s : State) (n : Int) : (s.advance n).others = s.others := rfl
@[simp] theorem State.advance_racing (s : State) (n : Int) : (s.advance n).racing = s.racing := rfl

@[simp] theorem State.goTo_x (s : State) (target : Int) : (s.goTo target).x = s.x := rfl
@[simp] theorem State.goTo_pc (s : State) (target : Int) : (s.goTo target).pc = target := rfl
@[simp] theorem State.goTo_calls (s : State) (target : Int) : (s.goTo target).calls = s.calls := rfl
@[simp] theorem State.goTo_mem (s : State) (target : Int) : (s.goTo target).mem = s.mem := rfl
@[simp] theorem State.goTo_platform (s : State) (target : Int) : (s.goTo target).platform = s.platform := rfl
@[simp] theorem State.goTo_result (s : State) (target : Int) : (s.goTo target).result = s.result := rfl
@[simp] theorem State.goTo_helperCount (s : State) (target : Int) : (s.goTo target).helperCount = s.helperCount := rfl
@[simp] theorem State.goTo_helperReplies (s : State) (target : Int) : (s.goTo target).helperReplies = s.helperReplies := rfl
@[simp] theorem State.goTo_others (s : State) (target : Int) : (s.goTo target).others = s.others := rfl
@[simp] theorem State.goTo_racing (s : State) (target : Int) : (s.goTo target).racing = s.racing := rfl

@[simp] theorem State.memWrite_x (s : State) (addr : Word) (n : Nat) (v : BitVec (8 * n)) : (s.memWrite addr n v).x = s.x := rfl
@[simp] theorem State.memWrite_pc (s : State) (addr : Word) (n : Nat) (v : BitVec (8 * n)) : (s.memWrite addr n v).pc = s.pc := rfl
@[simp] theorem State.memWrite_calls (s : State) (addr : Word) (n : Nat) (v : BitVec (8 * n)) : (s.memWrite addr n v).calls = s.calls := rfl
@[simp] theorem State.memWrite_mem (s : State) (addr : Word) (n : Nat) (v : BitVec (8 * n)) : (s.memWrite addr n v).mem = Memory.setBytes s.mem addr.toNat (disassemble s.platform.endian n v) := rfl
@[simp] theorem State.memWrite_platform (s : State) (addr : Word) (n : Nat) (v : BitVec (8 * n)) : (s.memWrite addr n v).platform = s.platform := rfl
@[simp] theorem State.memWrite_result (s : State) (addr : Word) (n : Nat) (v : BitVec (8 * n)) : (s.memWrite addr n v).result = s.result := rfl
@[simp] theorem State.memWrite_helperCount (s : State) (addr : Word) (n : Nat) (v : BitVec (8 * n)) : (s.memWrite addr n v).helperCount = s.helperCount := rfl
@[simp] theorem State.memWrite_helperReplies (s : State) (addr : Word) (n : Nat) (v : BitVec (8 * n)) : (s.memWrite addr n v).helperReplies = s.helperReplies := rfl
@[simp] theorem State.memWrite_others (s : State) (addr : Word) (n : Nat) (v : BitVec (8 * n)) : (s.memWrite addr n v).others = s.others := rfl
@[simp] theorem State.memWrite_racing (s : State) (addr : Word) (n : Nat) (v : BitVec (8 * n)) : (s.memWrite addr n v).racing = s.racing := rfl

@[simp] theorem State.atomicRmw_x (s : State) (addr : Word) (n : Nat) (f : BitVec (8 * n) → BitVec (8 * n)) : (s.atomicRmw addr n f).x = s.x := rfl
@[simp] theorem State.atomicRmw_pc (s : State) (addr : Word) (n : Nat) (f : BitVec (8 * n) → BitVec (8 * n)) : (s.atomicRmw addr n f).pc = s.pc := rfl
@[simp] theorem State.atomicRmw_calls (s : State) (addr : Word) (n : Nat) (f : BitVec (8 * n) → BitVec (8 * n)) : (s.atomicRmw addr n f).calls = s.calls := rfl
@[simp] theorem State.atomicRmw_mem (s : State) (addr : Word) (n : Nat) (f : BitVec (8 * n) → BitVec (8 * n)) : (s.atomicRmw addr n f).mem = Memory.setBytes s.mem addr.toNat (disassemble s.platform.endian n (f (s.memRead addr n))) := rfl
@[simp] theorem State.atomicRmw_platform (s : State) (addr : Word) (n : Nat) (f : BitVec (8 * n) → BitVec (8 * n)) : (s.atomicRmw addr n f).platform = s.platform := rfl
@[simp] theorem State.atomicRmw_result (s : State) (addr : Word) (n : Nat) (f : BitVec (8 * n) → BitVec (8 * n)) : (s.atomicRmw addr n f).result = s.result := rfl
@[simp] theorem State.atomicRmw_helperCount (s : State) (addr : Word) (n : Nat) (f : BitVec (8 * n) → BitVec (8 * n)) : (s.atomicRmw addr n f).helperCount = s.helperCount := rfl
@[simp] theorem State.atomicRmw_helperReplies (s : State) (addr : Word) (n : Nat) (f : BitVec (8 * n) → BitVec (8 * n)) : (s.atomicRmw addr n f).helperReplies = s.helperReplies := rfl
@[simp] theorem State.atomicRmw_others (s : State) (addr : Word) (n : Nat) (f : BitVec (8 * n) → BitVec (8 * n)) : (s.atomicRmw addr n f).others = s.others := rfl
@[simp] theorem State.atomicRmw_racing (s : State) (addr : Word) (n : Nat) (f : BitVec (8 * n) → BitVec (8 * n)) : (s.atomicRmw addr n f).racing = s.racing := rfl

@[simp] theorem State.enterFunction_x (s : State) (target : Int) : (s.enterFunction target).x = Registers.enter s.x s.platform.stackSize := by
  simp only [State.enterFunction]
@[simp] theorem State.enterFunction_pc (s : State) (target : Int) : (s.enterFunction target).pc = target := by
  simp only [State.enterFunction]
@[simp] theorem State.enterFunction_calls (s : State) (target : Int) : (s.enterFunction target).calls = s.callRecord :: s.calls := by
  simp only [State.enterFunction]
@[simp] theorem State.enterFunction_mem (s : State) (target : Int) : (s.enterFunction target).mem = s.mem := by
  simp only [State.enterFunction]
@[simp] theorem State.enterFunction_platform (s : State) (target : Int) : (s.enterFunction target).platform = s.platform := by
  simp only [State.enterFunction]
@[simp] theorem State.enterFunction_result (s : State) (target : Int) : (s.enterFunction target).result = s.result := by
  simp only [State.enterFunction]
@[simp] theorem State.enterFunction_helperCount (s : State) (target : Int) : (s.enterFunction target).helperCount = s.helperCount := by
  simp only [State.enterFunction]
@[simp] theorem State.enterFunction_helperReplies (s : State) (target : Int) : (s.enterFunction target).helperReplies = s.helperReplies := by
  simp only [State.enterFunction]
@[simp] theorem State.enterFunction_others (s : State) (target : Int) : (s.enterFunction target).others = s.others := by
  simp only [State.enterFunction]
@[simp] theorem State.enterFunction_racing (s : State) (target : Int) : (s.enterFunction target).racing = s.racing := by
  simp only [State.enterFunction]

@[simp] theorem State.leaveFunction_x (s : State) (r : CallRecord) (rest : List CallRecord) : (s.leaveFunction r rest).x = Registers.leave s.x r := by
  simp only [State.leaveFunction]
@[simp] theorem State.leaveFunction_pc (s : State) (r : CallRecord) (rest : List CallRecord) : (s.leaveFunction r rest).pc = r.ret := by
  simp only [State.leaveFunction]
@[simp] theorem State.leaveFunction_calls (s : State) (r : CallRecord) (rest : List CallRecord) : (s.leaveFunction r rest).calls = rest := by
  simp only [State.leaveFunction]
@[simp] theorem State.leaveFunction_mem (s : State) (r : CallRecord) (rest : List CallRecord) : (s.leaveFunction r rest).mem = s.mem := by
  simp only [State.leaveFunction]
@[simp] theorem State.leaveFunction_platform (s : State) (r : CallRecord) (rest : List CallRecord) : (s.leaveFunction r rest).platform = s.platform := by
  simp only [State.leaveFunction]
@[simp] theorem State.leaveFunction_result (s : State) (r : CallRecord) (rest : List CallRecord) : (s.leaveFunction r rest).result = s.result := by
  simp only [State.leaveFunction]
@[simp] theorem State.leaveFunction_helperCount (s : State) (r : CallRecord) (rest : List CallRecord) : (s.leaveFunction r rest).helperCount = s.helperCount := by
  simp only [State.leaveFunction]
@[simp] theorem State.leaveFunction_helperReplies (s : State) (r : CallRecord) (rest : List CallRecord) : (s.leaveFunction r rest).helperReplies = s.helperReplies := by
  simp only [State.leaveFunction]
@[simp] theorem State.leaveFunction_others (s : State) (r : CallRecord) (rest : List CallRecord) : (s.leaveFunction r rest).others = s.others := by
  simp only [State.leaveFunction]
@[simp] theorem State.leaveFunction_racing (s : State) (r : CallRecord) (rest : List CallRecord) : (s.leaveFunction r rest).racing = s.racing := by
  simp only [State.leaveFunction]

@[simp] theorem State.halt_x (s : State) (v : Word) : (s.halt v).x = s.x := rfl
@[simp] theorem State.halt_pc (s : State) (v : Word) : (s.halt v).pc = s.pc := rfl
@[simp] theorem State.halt_calls (s : State) (v : Word) : (s.halt v).calls = s.calls := rfl
@[simp] theorem State.halt_mem (s : State) (v : Word) : (s.halt v).mem = s.mem := rfl
@[simp] theorem State.halt_platform (s : State) (v : Word) : (s.halt v).platform = s.platform := rfl
@[simp] theorem State.halt_result (s : State) (v : Word) : (s.halt v).result = some v := rfl
@[simp] theorem State.halt_helperCount (s : State) (v : Word) : (s.halt v).helperCount = s.helperCount := rfl
@[simp] theorem State.halt_helperReplies (s : State) (v : Word) : (s.halt v).helperReplies = s.helperReplies := rfl
@[simp] theorem State.halt_others (s : State) (v : Word) : (s.halt v).others = s.others := rfl
@[simp] theorem State.halt_racing (s : State) (v : Word) : (s.halt v).racing = s.racing := rfl

@[simp] theorem State.helperReturns_x (s : State) (result : Word) (writes : List Host.Cell) : (s.helperReturns result writes).x = Registers.clobberArgs (Registers.set s.x 0 (some result)) := by
  simp only [State.helperReturns]
@[simp] theorem State.helperReturns_pc (s : State) (result : Word) (writes : List Host.Cell) : (s.helperReturns result writes).pc = s.pc + 1 := by
  simp only [State.helperReturns]
@[simp] theorem State.helperReturns_calls (s : State) (result : Word) (writes : List Host.Cell) : (s.helperReturns result writes).calls = s.calls := by
  simp only [State.helperReturns]
@[simp] theorem State.helperReturns_mem (s : State) (result : Word) (writes : List Host.Cell) : (s.helperReturns result writes).mem = Memory.apply s.mem writes := by
  simp only [State.helperReturns]
@[simp] theorem State.helperReturns_platform (s : State) (result : Word) (writes : List Host.Cell) : (s.helperReturns result writes).platform = s.platform := by
  simp only [State.helperReturns]
@[simp] theorem State.helperReturns_result (s : State) (result : Word) (writes : List Host.Cell) : (s.helperReturns result writes).result = s.result := by
  simp only [State.helperReturns]
@[simp] theorem State.helperReturns_helperCount (s : State) (result : Word) (writes : List Host.Cell) : (s.helperReturns result writes).helperCount = s.helperCount + 1 := by
  simp only [State.helperReturns]
@[simp] theorem State.helperReturns_helperReplies (s : State) (result : Word) (writes : List Host.Cell) : (s.helperReturns result writes).helperReplies = s.helperReplies.tail := by
  simp only [State.helperReturns]
@[simp] theorem State.helperReturns_others (s : State) (result : Word) (writes : List Host.Cell) : (s.helperReturns result writes).others = s.others := by
  simp only [State.helperReturns]
@[simp] theorem State.helperReturns_racing (s : State) (result : Word) (writes : List Host.Cell) : (s.helperReturns result writes).racing = s.racing := by
  simp only [State.helperReturns]

/-- A branch changes `pc` alone. -/
theorem State.branch_eq (s : State) (taken : Bool) (off : BitVec 16) :
    s.branch taken off = s.goTo (if taken then jumpTarget s.pc off else s.pc + 1) := by
  cases taken <;> rfl

@[simp] theorem State.advance_reg (s : State) (n : Int) (q : Reg) : (s.advance n).reg q = s.reg q := rfl
@[simp] theorem State.goTo_reg (s : State) (target : Int) (q : Reg) : (s.goTo target).reg q = s.reg q := rfl
@[simp] theorem State.memWrite_reg (s : State) (addr : Word) (n : Nat) (v : BitVec (8 * n)) (q : Reg) : (s.memWrite addr n v).reg q = s.reg q := rfl
@[simp] theorem State.atomicRmw_reg (s : State) (addr : Word) (n : Nat) (f : BitVec (8 * n) → BitVec (8 * n)) (q : Reg) : (s.atomicRmw addr n f).reg q = s.reg q := rfl
@[simp] theorem State.halt_reg (s : State) (v : Word) (q : Reg) : (s.halt v).reg q = s.reg q := rfl

theorem Registers.get_eq_some_le {x : Registers} {r : Reg} {v : Word} (h : Registers.get x r = some v) : r.toNat ≤ 10 := by
  by_contra hr
  simp [Registers.get, Vector.getElem?_eq_none (by omega : 11 ≤ r.toNat)] at h

theorem State.reg_eq_some_le {s : State} {r : Reg} {v : Word} (h : s.reg r = some v) : r.toNat ≤ 10 :=
  Registers.get_eq_some_le h

/-- A register after one has been set: the new contents there, the old ones elsewhere. -/
theorem Registers.get_set (x : Registers) (r : Reg) (v : Option Word) (q : Reg) :
    Registers.get (Registers.set x r v) q = if q = r ∧ r.toNat ≤ 10 then v else Registers.get x q := by
  unfold Registers.get Registers.set
  rw [Vector.getElem?_setIfInBounds]
  by_cases hq : q = r
  · subst hq
    by_cases hr : q.toNat ≤ 10
    · simp [hr, (by omega : q.toNat < 11)]
    · have hx : x[q.toNat]? = none := Vector.getElem?_eq_none (by omega)
      have hn : ¬ q.toNat < 11 := by omega
      simp only [hx, hn, hr, and_false, if_false, if_true, Option.join_none]
  · have hn : ¬ r.toNat = q.toNat := fun h => hq (BitVec.eq_of_toNat_eq h.symm)
    simp only [hq, hn, if_false, false_and]

/-- A register after one has been set: the new contents there, the old ones elsewhere. -/
theorem State.setReg_reg (s : State) (r : Reg) (v : Option Word) (q : Reg) :
    (s.setReg r v).reg q = if q = r ∧ r.toNat ≤ 10 then v else s.reg q :=
  Registers.get_set s.x r v q

theorem State.setReg_reg_same (s : State) {r : Reg} (v : Option Word) (h : r.toNat ≤ 10) :
    (s.setReg r v).reg r = v := by
  simp [State.setReg_reg, h]

theorem State.setReg_reg_ne (s : State) {r q : Reg} (v : Option Word) (h : q ≠ r) :
    (s.setReg r v).reg q = s.reg q := by
  simp [State.setReg_reg, h]

/-- `x[1]` to `x[5]` become unwritten, the other registers stay (spec 42_jump.md R228). -/
theorem Registers.get_clobberArgs (x : Registers) (q : Reg) :
    Registers.get (Registers.clobberArgs x) q =
      if q ∈ ([1, 2, 3, 4, 5] : List Reg) then none else Registers.get x q := by
  simp only [Registers.clobberArgs, List.foldl, Registers.get_set, List.mem_cons, List.not_mem_nil, or_false]
  repeat' split
  all_goals simp_all

/-- The registers of a function that has just been entered (spec 42_jump.md R229). -/
theorem State.enterFunction_reg (s : State) (target : Int) (q : Reg) :
    (s.enterFunction target).reg q =
      if q = 10 then (s.reg 10).map fun fp => fp - BitVec.ofNat 64 s.platform.stackSize
      else if q ∈ ([6, 7, 8, 9] : List Reg) then none else s.reg q := by
  simp only [State.reg, State.enterFunction_x, Registers.enter, List.foldl, Registers.get_set, List.mem_cons,
    List.not_mem_nil, or_false]
  repeat' split
  all_goals simp_all

/-- The registers of the caller after a return (spec 42_jump.md R229). -/
theorem State.leaveFunction_reg (s : State) (r : CallRecord) (rest : List CallRecord) (q : Reg) :
    (s.leaveFunction r rest).reg q =
      if q ∈ ([1, 2, 3, 4, 5] : List Reg) then none
      else if q = 6 then r.r6 else if q = 7 then r.r7 else if q = 8 then r.r8 else if q = 9 then r.r9
      else if q = 10 then r.fp else s.reg q := by
  simp only [State.reg, State.leaveFunction_x, Registers.leave, Registers.get_clobberArgs, List.foldl,
    Registers.get_set, List.mem_cons, List.not_mem_nil, or_false]
  repeat' split
  all_goals simp_all

/-- The registers after a helper has returned (spec 42_jump.md R228). -/
theorem State.helperReturns_reg (s : State) (result : Word) (writes : List Host.Cell) (q : Reg) :
    (s.helperReturns result writes).reg q =
      if q ∈ ([1, 2, 3, 4, 5] : List Reg) then none else if q = 0 then some result else s.reg q := by
  simp only [State.reg, State.helperReturns_x, Registers.get_clobberArgs, Registers.get_set, List.mem_cons,
    List.not_mem_nil, or_false]
  repeat' split
  all_goals simp_all

end Sys2Proof.Machine
end

