-- ==== Sys2Proof/Laws/Memory.lean ====
section
/-! SUPPORT. What the memory operations do: reading after writing, and that each of them keeps the canonical form
(spec 20_memory.md R42, R43; log 6). -/

namespace Sys2Proof.Machine

/-- A listed byte after one has been written: the new one there, the old ones elsewhere. -/
theorem Memory.get_set (m : List Host.Cell) (a : Nat) (v : Byte) (b : Nat) :
    Memory.get (Memory.set m a v) b = if b = a then some v else Memory.get m b := by
  induction m with
  | nil => simp [Memory.set, Memory.get, eq_comm]
  | cons c rest ih =>
    obtain ⟨k, w⟩ := c
    by_cases hb : b = a
    · subst hb
      simp only [Memory.set]
      split
      · simp [Memory.get]
      · split <;> simp_all [Memory.get, eq_comm]
    · simp only [Memory.set]
      split
      · simp [Memory.get, Ne.symm hb]
      · split
        · subst k; simp [Memory.get, Ne.symm hb]
        · simp [Memory.get, hb, ih]

/-- Writing a byte at an address of the machine keeps the canonical form. -/
theorem Memory.wfFrom_set {m : List Host.Cell} {a lo : Nat} (v : Byte) (h : Memory.wfFrom lo m = true)
    (hlo : lo ≤ a) (ha : a < addressCount) : Memory.wfFrom lo (Memory.set m a v) = true := by
  induction m generalizing lo with
  | nil => simp [Memory.set, Memory.wfFrom, hlo, ha]
  | cons c rest ih =>
    obtain ⟨k, w⟩ := c
    simp only [Memory.wfFrom, Bool.and_eq_true, decide_eq_true_eq] at h
    simp only [Memory.set]
    split
    · simp [Memory.wfFrom, h, hlo, ha]; omega
    · split
      · subst a; simp [Memory.wfFrom, h]
      · simp only [Memory.wfFrom, Bool.and_eq_true, decide_eq_true_eq]
        exact ⟨h.1, ih h.2 (by omega)⟩

theorem Memory.wf_set {m : List Host.Cell} {a : Nat} (v : Byte) (h : Memory.wf m = true) (ha : a < addressCount) :
    Memory.wf (Memory.set m a v) = true :=
  Memory.wfFrom_set v h (Nat.zero_le a) ha

/-- Writing a run of bytes that ends below 2^64 keeps the canonical form. -/
theorem Memory.wf_setBytes {m : List Host.Cell} {a : Nat} {vs : List Byte} (h : Memory.wf m = true)
    (ha : a + vs.length ≤ addressCount) : Memory.wf (Memory.setBytes m a vs) = true := by
  induction vs generalizing m a with
  | nil => exact h
  | cons v vs ih =>
    simp only [List.length_cons] at ha
    exact ih (Memory.wf_set v h (by omega)) (by omega)

/-- Scattered writes keep the canonical form. -/
theorem Memory.wf_apply {m : List Host.Cell} (ws : List Host.Cell) (h : Memory.wf m = true) :
    Memory.wf (Memory.apply m ws) = true := by
  induction ws generalizing m with
  | nil => exact h
  | cons c ws ih =>
    obtain ⟨a, v⟩ := c
    simp only [Memory.apply]
    split
    · exact ih (Memory.wf_set v h ‹_›)
    · exact ih h

/-- A listed byte after a run of bytes has been written. -/
theorem Memory.get_setBytes (m : List Host.Cell) (a : Nat) (vs : List Byte) (b : Nat) :
    Memory.get (Memory.setBytes m a vs) b =
      if a ≤ b ∧ b < a + vs.length then vs[b - a]? else Memory.get m b := by
  induction vs generalizing m a with
  | nil => simp [Memory.setBytes]
  | cons v vs ih =>
    simp only [Memory.setBytes, ih, Memory.get_set, List.length_cons]
    rcases Nat.lt_trichotomy b a with h | h | h
    · rw [if_neg (by omega), if_neg (by omega), if_neg (by omega)]
    · subst h
      rw [if_neg (by omega), if_pos rfl, if_pos (by omega), Nat.sub_self, List.getElem?_cons_zero]
    · by_cases hb : b < a + (vs.length + 1)
      · rw [if_pos (by omega), if_pos (by omega), show b - a = (b - (a + 1)) + 1 by omega, List.getElem?_cons_succ]
      · rw [if_neg (by omega), if_neg (by omega), if_neg (by omega)]

@[simp] theorem disassemble_length (e : Endian) (n : Nat) (v : BitVec (8 * n)) : (disassemble e n v).length = n := by
  cases e <;> simp [disassemble]

/-- A byte outside a store reads as before (spec 20_memory.md R42, R43). -/
theorem State.byteAt_memWrite_outside (s : State) (addr : Word) (n : Nat) (v : BitVec (8 * n)) {a : Nat}
    (h : a < addr.toNat ∨ addr.toNat + n ≤ a) : (s.memWrite addr n v).byteAt a = s.byteAt a := by
  have hg : Memory.get (s.memWrite addr n v).mem a = Memory.get s.mem a := by
    rw [State.memWrite_mem, Memory.get_setBytes, if_neg (by rw [disassemble_length]; omega)]
  simp only [State.byteAt, hg, State.memWrite_platform]

/-- A byte inside a store reads as the byte that was stored there (spec 20_memory.md R42). -/
theorem State.byteAt_memWrite_inside (s : State) (addr : Word) (n : Nat) (v : BitVec (8 * n)) {i : Nat} (h : i < n) :
    (s.memWrite addr n v).byteAt (addr.toNat + i) =
      byteOf v (match s.platform.endian with | .little => i | .big => n - 1 - i) := by
  have hg : Memory.get (s.memWrite addr n v).mem (addr.toNat + i) = (disassemble s.platform.endian n v)[i]? := by
    rw [State.memWrite_mem, Memory.get_setBytes, if_pos (by rw [disassemble_length]; omega), Nat.add_sub_cancel_left]
  simp only [State.byteAt, hg]
  cases s.platform.endian
  · simp [disassemble, h]
  · simp [disassemble, h]

/-- A store that ends below 2^64 keeps the canonical form. -/
theorem State.memWrite_wf {s : State} (addr : Word) (n : Nat) (v : BitVec (8 * n)) (h : Memory.wf s.mem = true)
    (ha : addr.toNat + n ≤ addressCount) : Memory.wf (s.memWrite addr n v).mem = true :=
  Memory.wf_setBytes h (by rw [disassemble_length]; exact ha)

/-- What the other agents do keeps the canonical form and changes only memory and their own list (spec 60_exceptions.md
R419). -/
theorem State.otherAgents_wf {s : State} (h : Memory.wf s.mem = true) : Memory.wf s.otherAgents.mem = true := by
  unfold State.otherAgents
  split
  · exact h
  · exact Memory.wf_apply _ h

@[simp] theorem State.otherAgents_x (s : State) : s.otherAgents.x = s.x := by
  unfold State.otherAgents; split <;> rfl
@[simp] theorem State.otherAgents_reg (s : State) (r : Reg) : s.otherAgents.reg r = s.reg r := by
  simp [State.reg]
@[simp] theorem State.otherAgents_pc (s : State) : s.otherAgents.pc = s.pc := by
  unfold State.otherAgents; split <;> rfl
@[simp] theorem State.otherAgents_calls (s : State) : s.otherAgents.calls = s.calls := by
  unfold State.otherAgents; split <;> rfl
@[simp] theorem State.otherAgents_platform (s : State) : s.otherAgents.platform = s.platform := by
  unfold State.otherAgents; split <;> rfl
@[simp] theorem State.otherAgents_result (s : State) : s.otherAgents.result = s.result := by
  unfold State.otherAgents; split <;> rfl
@[simp] theorem State.otherAgents_helperCount (s : State) : s.otherAgents.helperCount = s.helperCount := by
  unfold State.otherAgents; split <;> rfl
@[simp] theorem State.otherAgents_helperReplies (s : State) : s.otherAgents.helperReplies = s.helperReplies := by
  unfold State.otherAgents; split <;> rfl
@[simp] theorem State.otherAgents_racing (s : State) :
    s.otherAgents.racing = (s.others.head?.map AgentTurn.racing).getD [] := by
  unfold State.otherAgents; split <;> simp [*]
@[simp] theorem State.otherAgents_others (s : State) : s.otherAgents.others = s.others.tail := by
  unfold State.otherAgents; split <;> simp [*]

end Sys2Proof.Machine
end

