-- ==== Sys2Proof/Laws/Ops.lean ====
section
/-! SUPPORT. For each shared operation, once, all that it can do: the next state it answers and when (spec 40_alu.md R109;
42_jump.md R225, R228; 43_load_store.md R304; 44_atomic.md R337; 45_imm64.md R375). -/

namespace Sys2Proof.Machine

/-! ### What a read assembles. -/

theorem littleNat_map_range (f : Nat → Byte) (n : Nat) :
    littleNat ((List.range n).map f) = ((List.range n).map fun i => (f i).toNat * 256 ^ i).sum := by
  induction n generalizing f with
  | zero => rfl
  | succ n ih =>
    simp only [List.range_succ_eq_map, List.map_cons, List.map_map, List.sum_cons, littleNat, Function.comp_def, ih,
      pow_zero, mul_one, ← List.sum_map_mul_left, pow_succ]
    congr 2
    exact List.map_congr_left fun i _ => by ring

theorem littleNat_lt (bs : List Byte) : littleNat bs < 2 ^ (8 * bs.length) := by
  induction bs with
  | nil => simp [littleNat]
  | cons b bs ih =>
    simp only [littleNat, List.length_cons, Nat.mul_add, pow_add]
    have := b.isLt
    omega

theorem reverse_map_range {α : Type} (f : Nat → α) (n : Nat) :
    ((List.range n).map f).reverse = (List.range n).map fun i => f (n - 1 - i) := by
  apply List.ext_getElem <;> simp

/-- Bytes assembled in the platform's byte order are the number they stand for (spec 20_memory.md R42). -/
theorem assemble_toNat (e : Endian) (n : Nat) (byte : Nat → Byte) :
    (assemble e n ((List.range n).map byte)).toNat = Ref.number e n byte := by
  have hl := littleNat_lt ((List.range n).map byte)
  have hr := littleNat_lt ((List.range n).map byte).reverse
  simp only [List.length_reverse, List.length_map, List.length_range] at hl hr
  unfold assemble Ref.number
  cases e
  · rw [BitVec.toNat_ofNat, Nat.mod_eq_of_lt hl, littleNat_map_range]
    rfl
  · rw [BitVec.toNat_ofNat, Nat.mod_eq_of_lt hr, reverse_map_range, littleNat_map_range, ← List.sum_reverse,
      reverse_map_range]
    congr 1
    refine List.map_congr_left fun i hi => ?_
    have := List.mem_range.mp hi
    rw [show n - 1 - (n - 1 - i) = i by omega, Ref.position]

/-- A read gives the number that its bytes hold in the platform's byte order (spec 20_memory.md R42). -/
theorem State.memRead_toNat (s : State) (addr : Word) (n : Nat) :
    (s.memRead addr n).toNat = Ref.loaded s addr.toNat n :=
  assemble_toNat _ n _

/-! ### What a race can touch. -/

theorem Platform.sharedAt_iff (p : Platform) (a : Nat) : p.sharedAt a = true ↔ Shared p a := by
  simp [Platform.sharedAt, and_assoc]

theorem Platform.wholeRegular_iff (p : Platform) (addr n : Nat) :
    p.wholeRegular addr n = true ↔ SingleCopy p addr n := by
  simp [Platform.wholeRegular, SingleCopy, and_assoc]

/-- The byte that a regular read gives: the draw in a race, else what memory holds (spec 20_memory.md R47). -/
theorem State.regularByteAt_eq (s : State) (addr n a : Nat) :
    s.regularByteAt addr n a =
      if Shared s.platform a ∧ ¬ SingleCopy s.platform addr n then (s.racing.lookup a).getD (s.byteAt a)
      else s.byteAt a := by
  simp only [State.regularByteAt, Bool.and_eq_true, Bool.not_eq_true', Platform.sharedAt_iff,
    ← Platform.wholeRegular_iff, Bool.not_eq_true]

/-- A regular read gives the number that its bytes, some of them draws, stand for (spec 20_memory.md R42, R47). -/
theorem State.regularRead_toNat (s : State) (addr : Word) (n : Nat) :
    (s.regularRead addr n).toNat = Ref.read s addr.toNat n := by
  unfold State.regularRead Ref.read
  rw [assemble_toNat]
  simp only [State.regularByteAt_eq]

/-- A listed byte after scattered writes: the last one written there, or the old one (spec 42_jump.md R228;
60_exceptions.md R419). -/
theorem Memory.get_apply (m ws : List Host.Cell) {a : Nat} (ha : a < addressCount) :
    Memory.get (Memory.apply m ws) a = (Ref.lastWrite ws a <|> Memory.get m a) := by
  have fold : ∀ (ws : List Host.Cell) (found : Option Byte),
      ws.foldl (fun f c => if c.1 = a then some c.2 else f) found = (Ref.lastWrite ws a <|> found) := by
    intro ws
    induction ws with
    | nil => intro found; rfl
    | cons c ws ih =>
      intro found
      simp only [Ref.lastWrite, List.foldl]
      rw [ih, ih (if c.1 = a then some c.2 else none)]
      split <;> simp
  induction ws generalizing m with
  | nil => rfl
  | cons c ws ih =>
    obtain ⟨b, v⟩ := c
    rw [show Ref.lastWrite ((b, v) :: ws) a = _ from fold ws (if b = a then some v else none)]
    simp only [Memory.apply]
    split
    · rw [ih, Memory.get_set]
      by_cases h : a = b
      · simp [h]
      · simp [h, Ne.symm h]
    · rw [ih, if_neg (by omega : ¬ b = a)]
      simp

/-! ### The checks. -/

theorem withReg_some {s : State} {r : Reg} {v : Word} (h : s.reg r = some v) (k : Word → Result) :
    withReg s r k = k v := by
  simp [withReg, h]

theorem withReg_unwritten {s : State} {r : Reg} (h : s.reg r = none) (hr : r.toNat ≤ 10) (k : Word → Result) :
    withReg s r k = .fault (.unwrittenRegister r) := by
  simp [withReg, h, hr]

theorem withReg_next {s t : State} {r : Reg} {k : Word → Result} (h : withReg s r k = .next t) :
    ∃ v, s.reg r = some v ∧ k v = .next t := by
  unfold withReg at h
  split at h
  · exact ⟨_, ‹_›, h⟩
  · cases h

theorem withDst_ok {s : State} {r : Reg} (h : CanWrite s r) (k : Result) : withDst s r k = k := by
  have h1 : ¬ r.toNat > 10 := by have := h.1; omega
  have h2 : ¬ (r.toNat = 10 ∧ s.platform.r10Writable = false) := fun ⟨h3, h4⟩ => by simp [h.2 h3] at h4
  simp only [withDst, if_neg h1, if_neg h2]

theorem withDst_readOnly {s : State} {r : Reg} (h : r.toNat = 10) (hw : s.platform.r10Writable = false) (k : Result) :
    withDst s r k = .fault .readOnlyRegister := by
  simp [withDst, h, hw]

theorem withDst_next {s t : State} {r : Reg} {k : Result} (h : withDst s r k = .next t) :
    CanWrite s r ∧ k = .next t := by
  unfold withDst at h
  split at h
  · cases h
  · split at h
    · cases h
    · exact ⟨⟨by omega, fun h10 => by simp_all⟩, h⟩

theorem withAdmitted_ok {s : State} {addr : Word} {n : Nat} {kind : AccessKind}
    (h : s.platform.admits addr n kind = true) (k : Result) : withAdmitted s addr n kind k = k := by
  simp [withAdmitted, h]

theorem withAdmitted_fault {s : State} {addr : Word} {n : Nat} {kind : AccessKind}
    (h : s.platform.admits addr n kind = false) (k : Result) :
    withAdmitted s addr n kind k = .fault (.memFault addr n kind) := by
  simp [withAdmitted, h]

theorem withAdmitted_next {s t : State} {addr : Word} {n : Nat} {kind : AccessKind} {k : Result}
    (h : withAdmitted s addr n kind k = .next t) : s.platform.admits addr n kind = true ∧ k = .next t := by
  unfold withAdmitted at h
  split at h
  · exact ⟨‹_›, h⟩
  · cases h

theorem withLookup_next {a : Option Word} {reason : RefusedReason} {k : Word → Result} {t : State}
    (h : withLookup a reason k = .next t) : ∃ v, a = some v ∧ k v = .next t := by
  unfold withLookup at h
  split at h
  · exact ⟨_, rfl, h⟩
  · cases h

theorem withNeeded_ok {s : State} {needs : List Reg}
    (h : ∀ r ∈ ([1, 2, 3, 4, 5] : List Reg), r ∈ needs → (s.reg r).isSome = true) (k : Result) :
    withNeeded s needs k = k := by
  have hf : ([1, 2, 3, 4, 5] : List Reg).find? (fun r => (s.reg r).isNone && needs.contains r) = none := by
    refine List.find?_eq_none.mpr fun r hr hc => ?_
    simp only [Bool.and_eq_true, List.contains_iff_mem] at hc
    have := h r hr hc.2
    simp_all
  rw [withNeeded, hf]

theorem withNeeded_next {s t : State} {needs : List Reg} {k : Result} (h : withNeeded s needs k = .next t) :
    (∀ r ∈ ([1, 2, 3, 4, 5] : List Reg), r ∈ needs → (s.reg r).isSome = true) ∧ k = .next t := by
  unfold withNeeded at h
  split at h
  · cases h
  · rename_i hf
    refine ⟨fun r hr hn => ?_, h⟩
    have := List.find?_eq_none.mp hf r hr
    simp only [Bool.and_eq_true, List.contains_iff_mem, not_and] at this
    cases hs : s.reg r with
    | some v => rfl
    | none => exact absurd hn (this (by simp [hs]))

/-- The first argument register that passes a test. -/
theorem find?_argument {p : Reg → Bool} {r : Reg} (hr : r ∈ ([1, 2, 3, 4, 5] : List Reg)) (hp : p r = true)
    (hq : ∀ q ∈ ([1, 2, 3, 4, 5] : List Reg), q.toNat < r.toNat → p q = false) :
    ([1, 2, 3, 4, 5] : List Reg).find? p = some r := by
  simp only [List.mem_cons, List.not_mem_nil, or_false, forall_eq_or_imp, forall_eq] at hr hq
  rcases hr with rfl | rfl | rfl | rfl | rfl <;> simp_all

/-- The first of the argument registers that a helper needs and that is unwritten (spec 60_exceptions.md R403, R411). -/
theorem withNeeded_unwritten {s : State} {needs : List Reg} {r : Reg} (hr : r ∈ ([1, 2, 3, 4, 5] : List Reg))
    (hn : r ∈ needs) (h : s.reg r = none)
    (hq : ∀ q ∈ ([1, 2, 3, 4, 5] : List Reg), q.toNat < r.toNat → q ∈ needs → (s.reg q).isSome = true) (k : Result) :
    withNeeded s needs k = .fault (.unwrittenRegister r) := by
  have skip : ∀ q ∈ ([1, 2, 3, 4, 5] : List Reg), q.toNat < r.toNat →
      ((s.reg q).isNone && needs.contains q) = false := by
    intro q hm hlt
    by_cases hc : q ∈ needs
    · have := hq q hm hlt hc
      cases hs : s.reg q <;> simp_all
    · simp [hc]
  have take : ((s.reg r).isNone && needs.contains r) = true := by simp [h, hn]
  rw [withNeeded, find?_argument hr take skip]

/-- An admitted access ends at or below the last address (spec 20_memory.md R41, R45). -/
theorem Platform.admits_bound {p : Platform} {addr : Word} {n : Nat} {kind : AccessKind}
    (h : p.admits addr n kind = true) : addr.toNat + n ≤ addressCount := by
  simp only [Platform.admits, Bool.and_eq_true, decide_eq_true_eq] at h
  exact h.1.1

/-! ### The register-writing operations. -/

/-- Writing a register and going on is what `WritesRegister` says. -/
theorem writesRegister_setReg (s : State) {d : Reg} (v : Word) (n : Int) (h : d.toNat ≤ 10) :
    WritesRegister s ((s.setReg d (some v)).advance n) d v n := by
  refine ⟨by simp [State.setReg_reg, h], fun r hr => ?_, rfl, ⟨rfl, fun a => rfl⟩, ⟨rfl, rfl, rfl, rfl, rfl, rfl, rfl⟩⟩
  simp only [List.mem_cons, List.not_mem_nil, or_false] at hr
  rw [State.advance_reg, State.setReg_reg_ne s _ hr]

/-- A register a program may write, written with its value computed from one read. -/
theorem alu64K_next {f : Word → Word → Word} {d : Reg} {imm : BitVec 32} {s t : State}
    (h : alu64K f d imm s = .next t) :
    ∃ a, CanWrite s d ∧ s.reg d = some a ∧ t = (s.setReg d (some (f a (immWord imm)))).advance 1 := by
  obtain ⟨hd, h⟩ := withDst_next h
  obtain ⟨a, ha, h⟩ := withReg_next h
  exact ⟨a, hd, ha, (Host.Outcome.next.inj h).symm⟩

theorem alu64K_ok {f : Word → Word → Word} {d : Reg} {s : State} {a : Word} (hd : CanWrite s d)
    (ha : s.reg d = some a) (imm : BitVec 32) :
    alu64K f d imm s = .next ((s.setReg d (some (f a (immWord imm)))).advance 1) := by
  rw [alu64K, withDst_ok hd, withReg_some ha, writeDst]

theorem alu64X_next {f : Word → Word → Word} {d r : Reg} {s t : State} (h : alu64X f d r s = .next t) :
    ∃ a b, CanWrite s d ∧ s.reg d = some a ∧ s.reg r = some b ∧ t = (s.setReg d (some (f a b))).advance 1 := by
  obtain ⟨hd, h⟩ := withDst_next h
  obtain ⟨a, ha, h⟩ := withReg_next h
  obtain ⟨b, hb, h⟩ := withReg_next h
  exact ⟨a, b, hd, ha, hb, (Host.Outcome.next.inj h).symm⟩

theorem alu64X_ok {f : Word → Word → Word} {d r : Reg} {s : State} {a b : Word} (hd : CanWrite s d)
    (ha : s.reg d = some a) (hb : s.reg r = some b) :
    alu64X f d r s = .next ((s.setReg d (some (f a b))).advance 1) := by
  rw [alu64X, withDst_ok hd, withReg_some ha, withReg_some hb, writeDst]

theorem alu32K_next {f : BitVec 32 → BitVec 32 → BitVec 32} {d : Reg} {imm : BitVec 32} {s t : State}
    (h : alu32K f d imm s = .next t) :
    ∃ a, CanWrite s d ∧ s.reg d = some a ∧ t = (s.setReg d (some (zext64 (f (low32 a) imm)))).advance 1 := by
  obtain ⟨hd, h⟩ := withDst_next h
  obtain ⟨a, ha, h⟩ := withReg_next h
  exact ⟨a, hd, ha, (Host.Outcome.next.inj h).symm⟩

theorem alu32K_ok {f : BitVec 32 → BitVec 32 → BitVec 32} {d : Reg} {s : State} {a : Word} (hd : CanWrite s d)
    (ha : s.reg d = some a) (imm : BitVec 32) :
    alu32K f d imm s = .next ((s.setReg d (some (zext64 (f (low32 a) imm)))).advance 1) := by
  rw [alu32K, withDst_ok hd, withReg_some ha, writeDst]

theorem alu32X_next {f : BitVec 32 → BitVec 32 → BitVec 32} {d r : Reg} {s t : State}
    (h : alu32X f d r s = .next t) :
    ∃ a b, CanWrite s d ∧ s.reg d = some a ∧ s.reg r = some b ∧
      t = (s.setReg d (some (zext64 (f (low32 a) (low32 b))))).advance 1 := by
  obtain ⟨hd, h⟩ := withDst_next h
  obtain ⟨a, ha, h⟩ := withReg_next h
  obtain ⟨b, hb, h⟩ := withReg_next h
  exact ⟨a, b, hd, ha, hb, (Host.Outcome.next.inj h).symm⟩

theorem alu32X_ok {f : BitVec 32 → BitVec 32 → BitVec 32} {d r : Reg} {s : State} {a b : Word} (hd : CanWrite s d)
    (ha : s.reg d = some a) (hb : s.reg r = some b) :
    alu32X f d r s = .next ((s.setReg d (some (zext64 (f (low32 a) (low32 b))))).advance 1) := by
  rw [alu32X, withDst_ok hd, withReg_some ha, withReg_some hb, writeDst]

theorem aluUnary_next {f : Word → Word} {d : Reg} {s t : State} (h : aluUnary f d s = .next t) :
    ∃ a, CanWrite s d ∧ s.reg d = some a ∧ t = (s.setReg d (some (f a))).advance 1 := by
  obtain ⟨hd, h⟩ := withDst_next h
  obtain ⟨a, ha, h⟩ := withReg_next h
  exact ⟨a, hd, ha, (Host.Outcome.next.inj h).symm⟩

theorem aluUnary_ok {f : Word → Word} {d : Reg} {s : State} {a : Word} (hd : CanWrite s d) (ha : s.reg d = some a) :
    aluUnary f d s = .next ((s.setReg d (some (f a))).advance 1) := by
  rw [aluUnary, withDst_ok hd, withReg_some ha, writeDst]

theorem swapLow_next {w : Nat} {f : BitVec w → BitVec w} {d : Reg} {s t : State} (h : swapLow f d s = .next t) :
    ∃ a, CanWrite s d ∧ s.reg d = some a ∧ t = (s.setReg d (some (zext64 (f (a.setWidth w))))).advance 1 :=
  aluUnary_next h

theorem movValue_next {v : Word} {d : Reg} {s t : State} (h : movValue v d s = .next t) :
    CanWrite s d ∧ t = (s.setReg d (some v)).advance 1 := by
  obtain ⟨hd, h⟩ := withDst_next h
  exact ⟨hd, (Host.Outcome.next.inj h).symm⟩

theorem movValue_ok {v : Word} {d : Reg} {s : State} (hd : CanWrite s d) :
    movValue v d s = .next ((s.setReg d (some v)).advance 1) := by
  rw [movValue, withDst_ok hd, writeDst]

theorem movReg_next {f : Word → Word} {d r : Reg} {s t : State} (h : movReg f d r s = .next t) :
    ∃ b, CanWrite s d ∧ s.reg r = some b ∧ t = (s.setReg d (some (f b))).advance 1 := by
  obtain ⟨hd, h⟩ := withDst_next h
  obtain ⟨b, hb, h⟩ := withReg_next h
  exact ⟨b, hd, hb, (Host.Outcome.next.inj h).symm⟩

theorem movReg_ok {f : Word → Word} {d r : Reg} {s : State} {b : Word} (hd : CanWrite s d) (hb : s.reg r = some b) :
    movReg f d r s = .next ((s.setReg d (some (f b))).advance 1) := by
  rw [movReg, withDst_ok hd, withReg_some hb, writeDst]

/-! ### Jumps. -/

theorem jcc64K_next {c : Word → Word → Bool} {d : Reg} {off : BitVec 16} {imm : BitVec 32} {s t : State}
    (h : jcc64K c d off imm s = .next t) :
    ∃ a, s.reg d = some a ∧ t = s.goTo (if c a (immWord imm) then jumpTarget s.pc off else s.pc + 1) := by
  obtain ⟨a, ha, h⟩ := withReg_next h
  exact ⟨a, ha, by rw [← State.branch_eq]; exact (Host.Outcome.next.inj h).symm⟩

theorem jcc64X_next {c : Word → Word → Bool} {d r : Reg} {off : BitVec 16} {s t : State}
    (h : jcc64X c d r off s = .next t) :
    ∃ a b, s.reg d = some a ∧ s.reg r = some b ∧ t = s.goTo (if c a b then jumpTarget s.pc off else s.pc + 1) := by
  obtain ⟨a, ha, h⟩ := withReg_next h
  obtain ⟨b, hb, h⟩ := withReg_next h
  exact ⟨a, b, ha, hb, by rw [← State.branch_eq]; exact (Host.Outcome.next.inj h).symm⟩

theorem jcc32K_next {c : BitVec 32 → BitVec 32 → Bool} {d : Reg} {off : BitVec 16} {imm : BitVec 32} {s t : State}
    (h : jcc32K c d off imm s = .next t) :
    ∃ a, s.reg d = some a ∧ t = s.goTo (if c (low32 a) imm then jumpTarget s.pc off else s.pc + 1) := by
  obtain ⟨a, ha, h⟩ := withReg_next h
  exact ⟨a, ha, by rw [← State.branch_eq]; exact (Host.Outcome.next.inj h).symm⟩

theorem jcc32X_next {c : BitVec 32 → BitVec 32 → Bool} {d r : Reg} {off : BitVec 16} {s t : State}
    (h : jcc32X c d r off s = .next t) :
    ∃ a b, s.reg d = some a ∧ s.reg r = some b ∧
      t = s.goTo (if c (low32 a) (low32 b) then jumpTarget s.pc off else s.pc + 1) := by
  obtain ⟨a, ha, h⟩ := withReg_next h
  obtain ⟨b, hb, h⟩ := withReg_next h
  exact ⟨a, b, ha, hb, by rw [← State.branch_eq]; exact (Host.Outcome.next.inj h).symm⟩

/-! ### Calls. -/

/-- A helper call that completes: the table defines the id, the needed argument registers are written, the helper
returns. -/
theorem callHelper_next {table : HelperTable} {btf : Bool} {id : BitVec 32} {s t : State}
    (h : callHelper table btf id s = .next t) :
    ∃ needs more result writes, table.needs? id = some needs ∧ s.helperReply btf id = ⟨more, .returns result writes⟩ ∧
      (∀ r ∈ ([1, 2, 3, 4, 5] : List Reg), r ∈ needs ∨ r ∈ more → (s.reg r).isSome = true) ∧
      t = s.helperReturns result writes := by
  unfold callHelper at h
  split at h
  · cases h
  · rename_i needs hid
    obtain ⟨hn, h⟩ := withNeeded_next h
    rcases hr : s.helperReply btf id with ⟨more, answer⟩
    simp only [hr, List.mem_append] at hn h
    cases answer with
    | returns result writes => exact ⟨needs, more, result, writes, hid, rfl, hn, (Host.Outcome.next.inj h).symm⟩
    | memFault addr n kind => cases h
    | declines => cases h

theorem execCallLocal_next {imm : BitVec 32} {s t : State} (h : execCallLocal imm s = .next t) :
    s.calls.length < s.platform.maxCallDepth ∧ t = s.enterFunction (jumpTarget s.pc imm) := by
  unfold execCallLocal at h
  split at h
  · cases h
  · exact ⟨by omega, (Host.Outcome.next.inj h).symm⟩

theorem execExit_next {s t : State} (h : execExit s = .next t) :
    (∃ v, s.calls = [] ∧ s.reg 0 = some v ∧ t = s.halt v) ∨
      (∃ r rest, s.calls = r :: rest ∧ t = s.leaveFunction r rest) := by
  unfold execExit at h
  split at h
  · obtain ⟨v, hv, h⟩ := withReg_next h
    exact .inl ⟨v, ‹_›, hv, (Host.Outcome.next.inj h).symm⟩
  · exact .inr ⟨_, _, ‹_›, (Host.Outcome.next.inj h).symm⟩

/-! ### Memory. -/

theorem storeAt_next {s t : State} {addr : Word} {n : Nat} {v : BitVec (8 * n)} (h : storeAt s addr n v = .next t) :
    s.platform.admits addr n .write = true ∧ t = (s.memWrite addr n v).advance 1 := by
  obtain ⟨ha, h⟩ := withAdmitted_next h
  exact ⟨ha, (Host.Outcome.next.inj h).symm⟩

theorem storeReg_next {n : Nat} {d r : Reg} {off : BitVec 16} {s t : State} (h : storeReg n d r off s = .next t) :
    ∃ base v, s.reg d = some base ∧ s.reg r = some v ∧ s.platform.admits (effectiveAddress base off) n .write = true ∧
      t = (s.memWrite (effectiveAddress base off) n (storeLow n v)).advance 1 := by
  obtain ⟨base, hb, h⟩ := withReg_next h
  obtain ⟨v, hv, h⟩ := withReg_next h
  exact ⟨base, v, hb, hv, storeAt_next h⟩

theorem storeImm_next {n : Nat} {d : Reg} {off : BitVec 16} {imm : BitVec 32} {s t : State}
    (h : storeImm n d off imm s = .next t) :
    ∃ base, s.reg d = some base ∧ s.platform.admits (effectiveAddress base off) n .write = true ∧
      t = (s.memWrite (effectiveAddress base off) n (storeLow n (immWord imm))).advance 1 := by
  obtain ⟨base, hb, h⟩ := withReg_next h
  exact ⟨base, hb, storeAt_next h⟩

theorem loadWith_next {n : Nat} {ext : BitVec (8 * n) → Word} {d r : Reg} {off : BitVec 16} {s t : State}
    (h : loadWith n ext d r off s = .next t) :
    ∃ base, CanWrite s d ∧ s.reg r = some base ∧ s.platform.admits (effectiveAddress base off) n .read = true ∧
      t = (s.setReg d (some (ext (s.regularRead (effectiveAddress base off) n)))).advance 1 := by
  obtain ⟨hd, h⟩ := withDst_next h
  obtain ⟨base, hb, h⟩ := withReg_next h
  obtain ⟨ha, h⟩ := withAdmitted_next h
  exact ⟨base, hd, hb, ha, (Host.Outcome.next.inj h).symm⟩

theorem atomicNoFetch_next {n : Nat} {f : BitVec (8 * n) → BitVec (8 * n) → BitVec (8 * n)} {d r : Reg}
    {off : BitVec 16} {s t : State} (h : atomicNoFetch n f d r off s = .next t) :
    ∃ base v, s.reg d = some base ∧ s.reg r = some v ∧
      s.platform.admits (effectiveAddress base off) n .atomic = true ∧
      t = (s.atomicRmw (effectiveAddress base off) n fun old => f old (storeLow n v)).advance 1 := by
  obtain ⟨base, hb, h⟩ := withReg_next h
  obtain ⟨v, hv, h⟩ := withReg_next h
  obtain ⟨ha, h⟩ := withAdmitted_next h
  exact ⟨base, v, hb, hv, ha, (Host.Outcome.next.inj h).symm⟩

theorem atomicFetch_next {n : Nat} {f : BitVec (8 * n) → BitVec (8 * n) → BitVec (8 * n)} {d r : Reg}
    {off : BitVec 16} {s t : State} (h : atomicFetch n f d r off s = .next t) :
    ∃ base v, CanWrite s r ∧ s.reg d = some base ∧ s.reg r = some v ∧
      s.platform.admits (effectiveAddress base off) n .atomic = true ∧
      t = ((s.atomicRmw (effectiveAddress base off) n fun old => f old (storeLow n v)).setReg r
        (some (zext64 (s.memRead (effectiveAddress base off) n)))).advance 1 := by
  obtain ⟨hr, h⟩ := withDst_next h
  obtain ⟨base, hb, h⟩ := withReg_next h
  obtain ⟨v, hv, h⟩ := withReg_next h
  obtain ⟨ha, h⟩ := withAdmitted_next h
  exact ⟨base, v, hr, hb, hv, ha, (Host.Outcome.next.inj h).symm⟩

theorem atomicCompareExchange_next {n : Nat} {d r : Reg} {off : BitVec 16} {s t : State}
    (h : atomicCompareExchange n d r off s = .next t) :
    ∃ base v expected, s.reg d = some base ∧ s.reg r = some v ∧ s.reg 0 = some expected ∧
      s.platform.admits (effectiveAddress base off) n .atomic = true ∧
      t = ((if s.memRead (effectiveAddress base off) n = storeLow n expected then
          s.memWrite (effectiveAddress base off) n (storeLow n v) else s).setReg 0
        (some (zext64 (s.memRead (effectiveAddress base off) n)))).advance 1 := by
  obtain ⟨base, hb, h⟩ := withReg_next h
  obtain ⟨v, hv, h⟩ := withReg_next h
  obtain ⟨expected, he, h⟩ := withReg_next h
  obtain ⟨ha, h⟩ := withAdmitted_next h
  exact ⟨base, v, expected, hb, hv, he, ha, (Host.Outcome.next.inj h).symm⟩

/-! ### 64-bit immediates. -/

theorem execLddw_next {d : Reg} {imm nextImm : BitVec 32} {s t : State} (h : execLddw d imm nextImm s = .next t) :
    CanWrite s d ∧ t = (s.setReg d (some (imm64 nextImm imm))).advance 2 := by
  obtain ⟨hd, h⟩ := withDst_next h
  exact ⟨hd, (Host.Outcome.next.inj h).symm⟩

theorem loadLookup_next {a : Option Word} {reason : RefusedReason} {d : Reg} {s t : State}
    (h : loadLookup a reason d s = .next t) :
    ∃ v, CanWrite s d ∧ a = some v ∧ t = (s.setReg d (some v)).advance 2 := by
  obtain ⟨hd, h⟩ := withDst_next h
  obtain ⟨v, hv, h⟩ := withLookup_next h
  exact ⟨v, hd, hv, (Host.Outcome.next.inj h).symm⟩

theorem loadMapValue_next {map : Option Word} {reason : RefusedReason} {nextImm : BitVec 32} {d : Reg} {s t : State}
    (h : loadMapValue map reason nextImm d s = .next t) :
    ∃ m v, CanWrite s d ∧ map = some m ∧ s.platform.mapVal? m = some v ∧
      t = (s.setReg d (some (v + zext64 nextImm))).advance 2 := by
  obtain ⟨hd, h⟩ := withDst_next h
  obtain ⟨m, hm, h⟩ := withLookup_next h
  obtain ⟨v, hv, h⟩ := withLookup_next h
  exact ⟨m, v, hd, hm, hv, (Host.Outcome.next.inj h).symm⟩

/-! ### Fetch and step. -/

/-- A fetch that gives an instruction: `pc` begins one, and it is the head of what the decoder reads there. -/
theorem fetch_ok {s : State} {i : Instr} (h : fetch s = .ok i) :
    s.platform.beginsAt s.pc = true ∧
      ∃ rest, decode s.platform.endian (s.platform.program.drop s.pc.toNat) = .ok (i, rest) := by
  unfold fetch at h
  split at h
  · split at h
    · cases h
    · rename_i slot rest hp
      split at h
      · rename_i j rest' hd
        cases h
        exact ⟨‹_›, rest', by rw [hp]; exact hd⟩
      · cases h
  · cases h

/-- What a step that answers a next state did (spec 70_reset_and_hazards.md R444). -/
theorem step_next {s t : State} (h : step s = .next t) :
    s.result = none ∧ ∃ i, fetch s.otherAgents = .ok i ∧ exec i s.otherAgents = .next t := by
  unfold step at h
  split at h
  · cases h
  · split at h
    · cases h
    · exact ⟨‹_›, _, ‹_›, h⟩

end Sys2Proof.Machine
end

