-- ==== Sys2Proof/Laws/PerInstr.lean ====
section
/-! SUPPORT. Statements about every instruction, one lemma per constructor: the opcode byte decides the length, and an
encoding has that length (spec 30_encoding.md R67, R79). -/

namespace Sys2Proof.Laws.EncodedLength

/-- Opcode 0x18 and no other byte makes an instruction two slots long, exactly those have a second slot, and the
encoding has as many slots as the instruction takes. -/
def Statement (i : Instr) : Prop :=
  (i.fields.opcode = 0x18 ↔ i.slots = 2) ∧ (i.nextImm?.isSome = true ↔ i.slots = 2) ∧
    ∀ e : Endian, (encode e i).length = i.slots

theorem add32Imm (dst : Reg) (imm : BitVec 32) : Statement (.add32Imm dst imm) :=
  ⟨of_decide_eq_true rfl, of_decide_eq_true rfl, fun _ => rfl⟩
theorem add32Reg (dst : Reg) (src : Reg) : Statement (.add32Reg dst src) :=
  ⟨of_decide_eq_true rfl, of_decide_eq_true rfl, fun _ => rfl⟩
theorem add64Imm (dst : Reg) (imm : BitVec 32) : Statement (.add64Imm dst imm) :=
  ⟨of_decide_eq_true rfl, of_decide_eq_true rfl, fun _ => rfl⟩
theorem add64Reg (dst : Reg) (src : Reg) : Statement (.add64Reg dst src) :=
  ⟨of_decide_eq_true rfl, of_decide_eq_true rfl, fun _ => rfl⟩
theorem sub32Imm (dst : Reg) (imm : BitVec 32) : Statement (.sub32Imm dst imm) :=
  ⟨of_decide_eq_true rfl, of_decide_eq_true rfl, fun _ => rfl⟩
theorem sub32Reg (dst : Reg) (src : Reg) : Statement (.sub32Reg dst src) :=
  ⟨of_decide_eq_true rfl, of_decide_eq_true rfl, fun _ => rfl⟩
theorem sub64Imm (dst : Reg) (imm : BitVec 32) : Statement (.sub64Imm dst imm) :=
  ⟨of_decide_eq_true rfl, of_decide_eq_true rfl, fun _ => rfl⟩
theorem sub64Reg (dst : Reg) (src : Reg) : Statement (.sub64Reg dst src) :=
  ⟨of_decide_eq_true rfl, of_decide_eq_true rfl, fun _ => rfl⟩
theorem mul32Imm (dst : Reg) (imm : BitVec 32) : Statement (.mul32Imm dst imm) :=
  ⟨of_decide_eq_true rfl, of_decide_eq_true rfl, fun _ => rfl⟩
theorem mul32Reg (dst : Reg) (src : Reg) : Statement (.mul32Reg dst src) :=
  ⟨of_decide_eq_true rfl, of_decide_eq_true rfl, fun _ => rfl⟩
theorem mul64Imm (dst : Reg) (imm : BitVec 32) : Statement (.mul64Imm dst imm) :=
  ⟨of_decide_eq_true rfl, of_decide_eq_true rfl, fun _ => rfl⟩
theorem mul64Reg (dst : Reg) (src : Reg) : Statement (.mul64Reg dst src) :=
  ⟨of_decide_eq_true rfl, of_decide_eq_true rfl, fun _ => rfl⟩
theorem div32Imm (dst : Reg) (imm : BitVec 32) : Statement (.div32Imm dst imm) :=
  ⟨of_decide_eq_true rfl, of_decide_eq_true rfl, fun _ => rfl⟩
theorem div32Reg (dst : Reg) (src : Reg) : Statement (.div32Reg dst src) :=
  ⟨of_decide_eq_true rfl, of_decide_eq_true rfl, fun _ => rfl⟩
theorem div64Imm (dst : Reg) (imm : BitVec 32) : Statement (.div64Imm dst imm) :=
  ⟨of_decide_eq_true rfl, of_decide_eq_true rfl, fun _ => rfl⟩
theorem div64Reg (dst : Reg) (src : Reg) : Statement (.div64Reg dst src) :=
  ⟨of_decide_eq_true rfl, of_decide_eq_true rfl, fun _ => rfl⟩
theorem sdiv32Imm (dst : Reg) (imm : BitVec 32) : Statement (.sdiv32Imm dst imm) :=
  ⟨of_decide_eq_true rfl, of_decide_eq_true rfl, fun _ => rfl⟩
theorem sdiv32Reg (dst : Reg) (src : Reg) : Statement (.sdiv32Reg dst src) :=
  ⟨of_decide_eq_true rfl, of_decide_eq_true rfl, fun _ => rfl⟩
theorem sdiv64Imm (dst : Reg) (imm : BitVec 32) : Statement (.sdiv64Imm dst imm) :=
  ⟨of_decide_eq_true rfl, of_decide_eq_true rfl, fun _ => rfl⟩
theorem sdiv64Reg (dst : Reg) (src : Reg) : Statement (.sdiv64Reg dst src) :=
  ⟨of_decide_eq_true rfl, of_decide_eq_true rfl, fun _ => rfl⟩
theorem or32Imm (dst : Reg) (imm : BitVec 32) : Statement (.or32Imm dst imm) :=
  ⟨of_decide_eq_true rfl, of_decide_eq_true rfl, fun _ => rfl⟩
theorem or32Reg (dst : Reg) (src : Reg) : Statement (.or32Reg dst src) :=
  ⟨of_decide_eq_true rfl, of_decide_eq_true rfl, fun _ => rfl⟩
theorem or64Imm (dst : Reg) (imm : BitVec 32) : Statement (.or64Imm dst imm) :=
  ⟨of_decide_eq_true rfl, of_decide_eq_true rfl, fun _ => rfl⟩
theorem or64Reg (dst : Reg) (src : Reg) : Statement (.or64Reg dst src) :=
  ⟨of_decide_eq_true rfl, of_decide_eq_true rfl, fun _ => rfl⟩
theorem and32Imm (dst : Reg) (imm : BitVec 32) : Statement (.and32Imm dst imm) :=
  ⟨of_decide_eq_true rfl, of_decide_eq_true rfl, fun _ => rfl⟩
theorem and32Reg (dst : Reg) (src : Reg) : Statement (.and32Reg dst src) :=
  ⟨of_decide_eq_true rfl, of_decide_eq_true rfl, fun _ => rfl⟩
theorem and64Imm (dst : Reg) (imm : BitVec 32) : Statement (.and64Imm dst imm) :=
  ⟨of_decide_eq_true rfl, of_decide_eq_true rfl, fun _ => rfl⟩
theorem and64Reg (dst : Reg) (src : Reg) : Statement (.and64Reg dst src) :=
  ⟨of_decide_eq_true rfl, of_decide_eq_true rfl, fun _ => rfl⟩
theorem lsh32Imm (dst : Reg) (imm : BitVec 32) : Statement (.lsh32Imm dst imm) :=
  ⟨of_decide_eq_true rfl, of_decide_eq_true rfl, fun _ => rfl⟩
theorem lsh32Reg (dst : Reg) (src : Reg) : Statement (.lsh32Reg dst src) :=
  ⟨of_decide_eq_true rfl, of_decide_eq_true rfl, fun _ => rfl⟩
theorem lsh64Imm (dst : Reg) (imm : BitVec 32) : Statement (.lsh64Imm dst imm) :=
  ⟨of_decide_eq_true rfl, of_decide_eq_true rfl, fun _ => rfl⟩
theorem lsh64Reg (dst : Reg) (src : Reg) : Statement (.lsh64Reg dst src) :=
  ⟨of_decide_eq_true rfl, of_decide_eq_true rfl, fun _ => rfl⟩
theorem rsh32Imm (dst : Reg) (imm : BitVec 32) : Statement (.rsh32Imm dst imm) :=
  ⟨of_decide_eq_true rfl, of_decide_eq_true rfl, fun _ => rfl⟩
theorem rsh32Reg (dst : Reg) (src : Reg) : Statement (.rsh32Reg dst src) :=
  ⟨of_decide_eq_true rfl, of_decide_eq_true rfl, fun _ => rfl⟩
theorem rsh64Imm (dst : Reg) (imm : BitVec 32) : Statement (.rsh64Imm dst imm) :=
  ⟨of_decide_eq_true rfl, of_decide_eq_true rfl, fun _ => rfl⟩
theorem rsh64Reg (dst : Reg) (src : Reg) : Statement (.rsh64Reg dst src) :=
  ⟨of_decide_eq_true rfl, of_decide_eq_true rfl, fun _ => rfl⟩
theorem neg32 (dst : Reg) : Statement (.neg32 dst) :=
  ⟨of_decide_eq_true rfl, of_decide_eq_true rfl, fun _ => rfl⟩
theorem neg64 (dst : Reg) : Statement (.neg64 dst) :=
  ⟨of_decide_eq_true rfl, of_decide_eq_true rfl, fun _ => rfl⟩
theorem mod32Imm (dst : Reg) (imm : BitVec 32) : Statement (.mod32Imm dst imm) :=
  ⟨of_decide_eq_true rfl, of_decide_eq_true rfl, fun _ => rfl⟩
theorem mod32Reg (dst : Reg) (src : Reg) : Statement (.mod32Reg dst src) :=
  ⟨of_decide_eq_true rfl, of_decide_eq_true rfl, fun _ => rfl⟩
theorem mod64Imm (dst : Reg) (imm : BitVec 32) : Statement (.mod64Imm dst imm) :=
  ⟨of_decide_eq_true rfl, of_decide_eq_true rfl, fun _ => rfl⟩
theorem mod64Reg (dst : Reg) (src : Reg) : Statement (.mod64Reg dst src) :=
  ⟨of_decide_eq_true rfl, of_decide_eq_true rfl, fun _ => rfl⟩
theorem smod32Imm (dst : Reg) (imm : BitVec 32) : Statement (.smod32Imm dst imm) :=
  ⟨of_decide_eq_true rfl, of_decide_eq_true rfl, fun _ => rfl⟩
theorem smod32Reg (dst : Reg) (src : Reg) : Statement (.smod32Reg dst src) :=
  ⟨of_decide_eq_true rfl, of_decide_eq_true rfl, fun _ => rfl⟩
theorem smod64Imm (dst : Reg) (imm : BitVec 32) : Statement (.smod64Imm dst imm) :=
  ⟨of_decide_eq_true rfl, of_decide_eq_true rfl, fun _ => rfl⟩
theorem smod64Reg (dst : Reg) (src : Reg) : Statement (.smod64Reg dst src) :=
  ⟨of_decide_eq_true rfl, of_decide_eq_true rfl, fun _ => rfl⟩
theorem xor32Imm (dst : Reg) (imm : BitVec 32) : Statement (.xor32Imm dst imm) :=
  ⟨of_decide_eq_true rfl, of_decide_eq_true rfl, fun _ => rfl⟩
theorem xor32Reg (dst : Reg) (src : Reg) : Statement (.xor32Reg dst src) :=
  ⟨of_decide_eq_true rfl, of_decide_eq_true rfl, fun _ => rfl⟩
theorem xor64Imm (dst : Reg) (imm : BitVec 32) : Statement (.xor64Imm dst imm) :=
  ⟨of_decide_eq_true rfl, of_decide_eq_true rfl, fun _ => rfl⟩
theorem xor64Reg (dst : Reg) (src : Reg) : Statement (.xor64Reg dst src) :=
  ⟨of_decide_eq_true rfl, of_decide_eq_true rfl, fun _ => rfl⟩
theorem mov32Imm (dst : Reg) (imm : BitVec 32) : Statement (.mov32Imm dst imm) :=
  ⟨of_decide_eq_true rfl, of_decide_eq_true rfl, fun _ => rfl⟩
theorem mov32Reg (dst : Reg) (src : Reg) : Statement (.mov32Reg dst src) :=
  ⟨of_decide_eq_true rfl, of_decide_eq_true rfl, fun _ => rfl⟩
theorem mov64Imm (dst : Reg) (imm : BitVec 32) : Statement (.mov64Imm dst imm) :=
  ⟨of_decide_eq_true rfl, of_decide_eq_true rfl, fun _ => rfl⟩
theorem mov64Reg (dst : Reg) (src : Reg) : Statement (.mov64Reg dst src) :=
  ⟨of_decide_eq_true rfl, of_decide_eq_true rfl, fun _ => rfl⟩
theorem movsx8To32 (dst : Reg) (src : Reg) : Statement (.movsx8To32 dst src) :=
  ⟨of_decide_eq_true rfl, of_decide_eq_true rfl, fun _ => rfl⟩
theorem movsx16To32 (dst : Reg) (src : Reg) : Statement (.movsx16To32 dst src) :=
  ⟨of_decide_eq_true rfl, of_decide_eq_true rfl, fun _ => rfl⟩
theorem movsx8To64 (dst : Reg) (src : Reg) : Statement (.movsx8To64 dst src) :=
  ⟨of_decide_eq_true rfl, of_decide_eq_true rfl, fun _ => rfl⟩
theorem movsx16To64 (dst : Reg) (src : Reg) : Statement (.movsx16To64 dst src) :=
  ⟨of_decide_eq_true rfl, of_decide_eq_true rfl, fun _ => rfl⟩
theorem movsx32To64 (dst : Reg) (src : Reg) : Statement (.movsx32To64 dst src) :=
  ⟨of_decide_eq_true rfl, of_decide_eq_true rfl, fun _ => rfl⟩
theorem arsh32Imm (dst : Reg) (imm : BitVec 32) : Statement (.arsh32Imm dst imm) :=
  ⟨of_decide_eq_true rfl, of_decide_eq_true rfl, fun _ => rfl⟩
theorem arsh32Reg (dst : Reg) (src : Reg) : Statement (.arsh32Reg dst src) :=
  ⟨of_decide_eq_true rfl, of_decide_eq_true rfl, fun _ => rfl⟩
theorem arsh64Imm (dst : Reg) (imm : BitVec 32) : Statement (.arsh64Imm dst imm) :=
  ⟨of_decide_eq_true rfl, of_decide_eq_true rfl, fun _ => rfl⟩
theorem arsh64Reg (dst : Reg) (src : Reg) : Statement (.arsh64Reg dst src) :=
  ⟨of_decide_eq_true rfl, of_decide_eq_true rfl, fun _ => rfl⟩
theorem le16 (dst : Reg) : Statement (.le16 dst) :=
  ⟨of_decide_eq_true rfl, of_decide_eq_true rfl, fun _ => rfl⟩
theorem le32 (dst : Reg) : Statement (.le32 dst) :=
  ⟨of_decide_eq_true rfl, of_decide_eq_true rfl, fun _ => rfl⟩
theorem le64 (dst : Reg) : Statement (.le64 dst) :=
  ⟨of_decide_eq_true rfl, of_decide_eq_true rfl, fun _ => rfl⟩
theorem be16 (dst : Reg) : Statement (.be16 dst) :=
  ⟨of_decide_eq_true rfl, of_decide_eq_true rfl, fun _ => rfl⟩
theorem be32 (dst : Reg) : Statement (.be32 dst) :=
  ⟨of_decide_eq_true rfl, of_decide_eq_true rfl, fun _ => rfl⟩
theorem be64 (dst : Reg) : Statement (.be64 dst) :=
  ⟨of_decide_eq_true rfl, of_decide_eq_true rfl, fun _ => rfl⟩
theorem bswap16 (dst : Reg) : Statement (.bswap16 dst) :=
  ⟨of_decide_eq_true rfl, of_decide_eq_true rfl, fun _ => rfl⟩
theorem bswap32 (dst : Reg) : Statement (.bswap32 dst) :=
  ⟨of_decide_eq_true rfl, of_decide_eq_true rfl, fun _ => rfl⟩
theorem bswap64 (dst : Reg) : Statement (.bswap64 dst) :=
  ⟨of_decide_eq_true rfl, of_decide_eq_true rfl, fun _ => rfl⟩
theorem ja (off : BitVec 16) : Statement (.ja off) :=
  ⟨of_decide_eq_true rfl, of_decide_eq_true rfl, fun _ => rfl⟩
theorem ja32 (imm : BitVec 32) : Statement (.ja32 imm) :=
  ⟨of_decide_eq_true rfl, of_decide_eq_true rfl, fun _ => rfl⟩
theorem jeqImm (dst : Reg) (off : BitVec 16) (imm : BitVec 32) : Statement (.jeqImm dst off imm) :=
  ⟨of_decide_eq_true rfl, of_decide_eq_true rfl, fun _ => rfl⟩
theorem jeqReg (dst : Reg) (src : Reg) (off : BitVec 16) : Statement (.jeqReg dst src off) :=
  ⟨of_decide_eq_true rfl, of_decide_eq_true rfl, fun _ => rfl⟩
theorem jeq32Imm (dst : Reg) (off : BitVec 16) (imm : BitVec 32) : Statement (.jeq32Imm dst off imm) :=
  ⟨of_decide_eq_true rfl, of_decide_eq_true rfl, fun _ => rfl⟩
theorem jeq32Reg (dst : Reg) (src : Reg) (off : BitVec 16) : Statement (.jeq32Reg dst src off) :=
  ⟨of_decide_eq_true rfl, of_decide_eq_true rfl, fun _ => rfl⟩
theorem jgtImm (dst : Reg) (off : BitVec 16) (imm : BitVec 32) : Statement (.jgtImm dst off imm) :=
  ⟨of_decide_eq_true rfl, of_decide_eq_true rfl, fun _ => rfl⟩
theorem jgtReg (dst : Reg) (src : Reg) (off : BitVec 16) : Statement (.jgtReg dst src off) :=
  ⟨of_decide_eq_true rfl, of_decide_eq_true rfl, fun _ => rfl⟩
theorem jgt32Imm (dst : Reg) (off : BitVec 16) (imm : BitVec 32) : Statement (.jgt32Imm dst off imm) :=
  ⟨of_decide_eq_true rfl, of_decide_eq_true rfl, fun _ => rfl⟩
theorem jgt32Reg (dst : Reg) (src : Reg) (off : BitVec 16) : Statement (.jgt32Reg dst src off) :=
  ⟨of_decide_eq_true rfl, of_decide_eq_true rfl, fun _ => rfl⟩
theorem jgeImm (dst : Reg) (off : BitVec 16) (imm : BitVec 32) : Statement (.jgeImm dst off imm) :=
  ⟨of_decide_eq_true rfl, of_decide_eq_true rfl, fun _ => rfl⟩
theorem jgeReg (dst : Reg) (src : Reg) (off : BitVec 16) : Statement (.jgeReg dst src off) :=
  ⟨of_decide_eq_true rfl, of_decide_eq_true rfl, fun _ => rfl⟩
theorem jge32Imm (dst : Reg) (off : BitVec 16) (imm : BitVec 32) : Statement (.jge32Imm dst off imm) :=
  ⟨of_decide_eq_true rfl, of_decide_eq_true rfl, fun _ => rfl⟩
theorem jge32Reg (dst : Reg) (src : Reg) (off : BitVec 16) : Statement (.jge32Reg dst src off) :=
  ⟨of_decide_eq_true rfl, of_decide_eq_true rfl, fun _ => rfl⟩
theorem jsetImm (dst : Reg) (off : BitVec 16) (imm : BitVec 32) : Statement (.jsetImm dst off imm) :=
  ⟨of_decide_eq_true rfl, of_decide_eq_true rfl, fun _ => rfl⟩
theorem jsetReg (dst : Reg) (src : Reg) (off : BitVec 16) : Statement (.jsetReg dst src off) :=
  ⟨of_decide_eq_true rfl, of_decide_eq_true rfl, fun _ => rfl⟩
theorem jset32Imm (dst : Reg) (off : BitVec 16) (imm : BitVec 32) : Statement (.jset32Imm dst off imm) :=
  ⟨of_decide_eq_true rfl, of_decide_eq_true rfl, fun _ => rfl⟩
theorem jset32Reg (dst : Reg) (src : Reg) (off : BitVec 16) : Statement (.jset32Reg dst src off) :=
  ⟨of_decide_eq_true rfl, of_decide_eq_true rfl, fun _ => rfl⟩
theorem jneImm (dst : Reg) (off : BitVec 16) (imm : BitVec 32) : Statement (.jneImm dst off imm) :=
  ⟨of_decide_eq_true rfl, of_decide_eq_true rfl, fun _ => rfl⟩
theorem jneReg (dst : Reg) (src : Reg) (off : BitVec 16) : Statement (.jneReg dst src off) :=
  ⟨of_decide_eq_true rfl, of_decide_eq_true rfl, fun _ => rfl⟩
theorem jne32Imm (dst : Reg) (off : BitVec 16) (imm : BitVec 32) : Statement (.jne32Imm dst off imm) :=
  ⟨of_decide_eq_true rfl, of_decide_eq_true rfl, fun _ => rfl⟩
theorem jne32Reg (dst : Reg) (src : Reg) (off : BitVec 16) : Statement (.jne32Reg dst src off) :=
  ⟨of_decide_eq_true rfl, of_decide_eq_true rfl, fun _ => rfl⟩
theorem jsgtImm (dst : Reg) (off : BitVec 16) (imm : BitVec 32) : Statement (.jsgtImm dst off imm) :=
  ⟨of_decide_eq_true rfl, of_decide_eq_true rfl, fun _ => rfl⟩
theorem jsgtReg (dst : Reg) (src : Reg) (off : BitVec 16) : Statement (.jsgtReg dst src off) :=
  ⟨of_decide_eq_true rfl, of_decide_eq_true rfl, fun _ => rfl⟩
theorem jsgt32Imm (dst : Reg) (off : BitVec 16) (imm : BitVec 32) : Statement (.jsgt32Imm dst off imm) :=
  ⟨of_decide_eq_true rfl, of_decide_eq_true rfl, fun _ => rfl⟩
theorem jsgt32Reg (dst : Reg) (src : Reg) (off : BitVec 16) : Statement (.jsgt32Reg dst src off) :=
  ⟨of_decide_eq_true rfl, of_decide_eq_true rfl, fun _ => rfl⟩
theorem jsgeImm (dst : Reg) (off : BitVec 16) (imm : BitVec 32) : Statement (.jsgeImm dst off imm) :=
  ⟨of_decide_eq_true rfl, of_decide_eq_true rfl, fun _ => rfl⟩
theorem jsgeReg (dst : Reg) (src : Reg) (off : BitVec 16) : Statement (.jsgeReg dst src off) :=
  ⟨of_decide_eq_true rfl, of_decide_eq_true rfl, fun _ => rfl⟩
theorem jsge32Imm (dst : Reg) (off : BitVec 16) (imm : BitVec 32) : Statement (.jsge32Imm dst off imm) :=
  ⟨of_decide_eq_true rfl, of_decide_eq_true rfl, fun _ => rfl⟩
theorem jsge32Reg (dst : Reg) (src : Reg) (off : BitVec 16) : Statement (.jsge32Reg dst src off) :=
  ⟨of_decide_eq_true rfl, of_decide_eq_true rfl, fun _ => rfl⟩
theorem jltImm (dst : Reg) (off : BitVec 16) (imm : BitVec 32) : Statement (.jltImm dst off imm) :=
  ⟨of_decide_eq_true rfl, of_decide_eq_true rfl, fun _ => rfl⟩
theorem jltReg (dst : Reg) (src : Reg) (off : BitVec 16) : Statement (.jltReg dst src off) :=
  ⟨of_decide_eq_true rfl, of_decide_eq_true rfl, fun _ => rfl⟩
theorem jlt32Imm (dst : Reg) (off : BitVec 16) (imm : BitVec 32) : Statement (.jlt32Imm dst off imm) :=
  ⟨of_decide_eq_true rfl, of_decide_eq_true rfl, fun _ => rfl⟩
theorem jlt32Reg (dst : Reg) (src : Reg) (off : BitVec 16) : Statement (.jlt32Reg dst src off) :=
  ⟨of_decide_eq_true rfl, of_decide_eq_true rfl, fun _ => rfl⟩
theorem jleImm (dst : Reg) (off : BitVec 16) (imm : BitVec 32) : Statement (.jleImm dst off imm) :=
  ⟨of_decide_eq_true rfl, of_decide_eq_true rfl, fun _ => rfl⟩
theorem jleReg (dst : Reg) (src : Reg) (off : BitVec 16) : Statement (.jleReg dst src off) :=
  ⟨of_decide_eq_true rfl, of_decide_eq_true rfl, fun _ => rfl⟩
theorem jle32Imm (dst : Reg) (off : BitVec 16) (imm : BitVec 32) : Statement (.jle32Imm dst off imm) :=
  ⟨of_decide_eq_true rfl, of_decide_eq_true rfl, fun _ => rfl⟩
theorem jle32Reg (dst : Reg) (src : Reg) (off : BitVec 16) : Statement (.jle32Reg dst src off) :=
  ⟨of_decide_eq_true rfl, of_decide_eq_true rfl, fun _ => rfl⟩
theorem jsltImm (dst : Reg) (off : BitVec 16) (imm : BitVec 32) : Statement (.jsltImm dst off imm) :=
  ⟨of_decide_eq_true rfl, of_decide_eq_true rfl, fun _ => rfl⟩
theorem jsltReg (dst : Reg) (src : Reg) (off : BitVec 16) : Statement (.jsltReg dst src off) :=
  ⟨of_decide_eq_true rfl, of_decide_eq_true rfl, fun _ => rfl⟩
theorem jslt32Imm (dst : Reg) (off : BitVec 16) (imm : BitVec 32) : Statement (.jslt32Imm dst off imm) :=
  ⟨of_decide_eq_true rfl, of_decide_eq_true rfl, fun _ => rfl⟩
theorem jslt32Reg (dst : Reg) (src : Reg) (off : BitVec 16) : Statement (.jslt32Reg dst src off) :=
  ⟨of_decide_eq_true rfl, of_decide_eq_true rfl, fun _ => rfl⟩
theorem jsleImm (dst : Reg) (off : BitVec 16) (imm : BitVec 32) : Statement (.jsleImm dst off imm) :=
  ⟨of_decide_eq_true rfl, of_decide_eq_true rfl, fun _ => rfl⟩
theorem jsleReg (dst : Reg) (src : Reg) (off : BitVec 16) : Statement (.jsleReg dst src off) :=
  ⟨of_decide_eq_true rfl, of_decide_eq_true rfl, fun _ => rfl⟩
theorem jsle32Imm (dst : Reg) (off : BitVec 16) (imm : BitVec 32) : Statement (.jsle32Imm dst off imm) :=
  ⟨of_decide_eq_true rfl, of_decide_eq_true rfl, fun _ => rfl⟩
theorem jsle32Reg (dst : Reg) (src : Reg) (off : BitVec 16) : Statement (.jsle32Reg dst src off) :=
  ⟨of_decide_eq_true rfl, of_decide_eq_true rfl, fun _ => rfl⟩
theorem callHelper (imm : BitVec 32) : Statement (.callHelper imm) :=
  ⟨of_decide_eq_true rfl, of_decide_eq_true rfl, fun _ => rfl⟩
theorem callLocal (imm : BitVec 32) : Statement (.callLocal imm) :=
  ⟨of_decide_eq_true rfl, of_decide_eq_true rfl, fun _ => rfl⟩
theorem callBtf (imm : BitVec 32) : Statement (.callBtf imm) :=
  ⟨of_decide_eq_true rfl, of_decide_eq_true rfl, fun _ => rfl⟩
theorem exit : Statement .exit :=
  ⟨of_decide_eq_true rfl, of_decide_eq_true rfl, fun _ => rfl⟩
theorem stxb (dst : Reg) (src : Reg) (off : BitVec 16) : Statement (.stxb dst src off) :=
  ⟨of_decide_eq_true rfl, of_decide_eq_true rfl, fun _ => rfl⟩
theorem stxh (dst : Reg) (src : Reg) (off : BitVec 16) : Statement (.stxh dst src off) :=
  ⟨of_decide_eq_true rfl, of_decide_eq_true rfl, fun _ => rfl⟩
theorem stxw (dst : Reg) (src : Reg) (off : BitVec 16) : Statement (.stxw dst src off) :=
  ⟨of_decide_eq_true rfl, of_decide_eq_true rfl, fun _ => rfl⟩
theorem stxdw (dst : Reg) (src : Reg) (off : BitVec 16) : Statement (.stxdw dst src off) :=
  ⟨of_decide_eq_true rfl, of_decide_eq_true rfl, fun _ => rfl⟩
theorem stb (dst : Reg) (off : BitVec 16) (imm : BitVec 32) : Statement (.stb dst off imm) :=
  ⟨of_decide_eq_true rfl, of_decide_eq_true rfl, fun _ => rfl⟩
theorem sth (dst : Reg) (off : BitVec 16) (imm : BitVec 32) : Statement (.sth dst off imm) :=
  ⟨of_decide_eq_true rfl, of_decide_eq_true rfl, fun _ => rfl⟩
theorem stw (dst : Reg) (off : BitVec 16) (imm : BitVec 32) : Statement (.stw dst off imm) :=
  ⟨of_decide_eq_true rfl, of_decide_eq_true rfl, fun _ => rfl⟩
theorem stdw (dst : Reg) (off : BitVec 16) (imm : BitVec 32) : Statement (.stdw dst off imm) :=
  ⟨of_decide_eq_true rfl, of_decide_eq_true rfl, fun _ => rfl⟩
theorem ldxb (dst : Reg) (src : Reg) (off : BitVec 16) : Statement (.ldxb dst src off) :=
  ⟨of_decide_eq_true rfl, of_decide_eq_true rfl, fun _ => rfl⟩
theorem ldxh (dst : Reg) (src : Reg) (off : BitVec 16) : Statement (.ldxh dst src off) :=
  ⟨of_decide_eq_true rfl, of_decide_eq_true rfl, fun _ => rfl⟩
theorem ldxw (dst : Reg) (src : Reg) (off : BitVec 16) : Statement (.ldxw dst src off) :=
  ⟨of_decide_eq_true rfl, of_decide_eq_true rfl, fun _ => rfl⟩
theorem ldxdw (dst : Reg) (src : Reg) (off : BitVec 16) : Statement (.ldxdw dst src off) :=
  ⟨of_decide_eq_true rfl, of_decide_eq_true rfl, fun _ => rfl⟩
theorem ldxsb (dst : Reg) (src : Reg) (off : BitVec 16) : Statement (.ldxsb dst src off) :=
  ⟨of_decide_eq_true rfl, of_decide_eq_true rfl, fun _ => rfl⟩
theorem ldxsh (dst : Reg) (src : Reg) (off : BitVec 16) : Statement (.ldxsh dst src off) :=
  ⟨of_decide_eq_true rfl, of_decide_eq_true rfl, fun _ => rfl⟩
theorem ldxsw (dst : Reg) (src : Reg) (off : BitVec 16) : Statement (.ldxsw dst src off) :=
  ⟨of_decide_eq_true rfl, of_decide_eq_true rfl, fun _ => rfl⟩
theorem atomicAdd32 (dst : Reg) (src : Reg) (off : BitVec 16) : Statement (.atomicAdd32 dst src off) :=
  ⟨of_decide_eq_true rfl, of_decide_eq_true rfl, fun _ => rfl⟩
theorem atomicFetchAdd32 (dst : Reg) (src : Reg) (off : BitVec 16) : Statement (.atomicFetchAdd32 dst src off) :=
  ⟨of_decide_eq_true rfl, of_decide_eq_true rfl, fun _ => rfl⟩
theorem atomicOr32 (dst : Reg) (src : Reg) (off : BitVec 16) : Statement (.atomicOr32 dst src off) :=
  ⟨of_decide_eq_true rfl, of_decide_eq_true rfl, fun _ => rfl⟩
theorem atomicFetchOr32 (dst : Reg) (src : Reg) (off : BitVec 16) : Statement (.atomicFetchOr32 dst src off) :=
  ⟨of_decide_eq_true rfl, of_decide_eq_true rfl, fun _ => rfl⟩
theorem atomicAnd32 (dst : Reg) (src : Reg) (off : BitVec 16) : Statement (.atomicAnd32 dst src off) :=
  ⟨of_decide_eq_true rfl, of_decide_eq_true rfl, fun _ => rfl⟩
theorem atomicFetchAnd32 (dst : Reg) (src : Reg) (off : BitVec 16) : Statement (.atomicFetchAnd32 dst src off) :=
  ⟨of_decide_eq_true rfl, of_decide_eq_true rfl, fun _ => rfl⟩
theorem atomicXor32 (dst : Reg) (src : Reg) (off : BitVec 16) : Statement (.atomicXor32 dst src off) :=
  ⟨of_decide_eq_true rfl, of_decide_eq_true rfl, fun _ => rfl⟩
theorem atomicFetchXor32 (dst : Reg) (src : Reg) (off : BitVec 16) : Statement (.atomicFetchXor32 dst src off) :=
  ⟨of_decide_eq_true rfl, of_decide_eq_true rfl, fun _ => rfl⟩
theorem atomicXchg32 (dst : Reg) (src : Reg) (off : BitVec 16) : Statement (.atomicXchg32 dst src off) :=
  ⟨of_decide_eq_true rfl, of_decide_eq_true rfl, fun _ => rfl⟩
theorem atomicCmpxchg32 (dst : Reg) (src : Reg) (off : BitVec 16) : Statement (.atomicCmpxchg32 dst src off) :=
  ⟨of_decide_eq_true rfl, of_decide_eq_true rfl, fun _ => rfl⟩
theorem atomicAdd64 (dst : Reg) (src : Reg) (off : BitVec 16) : Statement (.atomicAdd64 dst src off) :=
  ⟨of_decide_eq_true rfl, of_decide_eq_true rfl, fun _ => rfl⟩
theorem atomicFetchAdd64 (dst : Reg) (src : Reg) (off : BitVec 16) : Statement (.atomicFetchAdd64 dst src off) :=
  ⟨of_decide_eq_true rfl, of_decide_eq_true rfl, fun _ => rfl⟩
theorem atomicOr64 (dst : Reg) (src : Reg) (off : BitVec 16) : Statement (.atomicOr64 dst src off) :=
  ⟨of_decide_eq_true rfl, of_decide_eq_true rfl, fun _ => rfl⟩
theorem atomicFetchOr64 (dst : Reg) (src : Reg) (off : BitVec 16) : Statement (.atomicFetchOr64 dst src off) :=
  ⟨of_decide_eq_true rfl, of_decide_eq_true rfl, fun _ => rfl⟩
theorem atomicAnd64 (dst : Reg) (src : Reg) (off : BitVec 16) : Statement (.atomicAnd64 dst src off) :=
  ⟨of_decide_eq_true rfl, of_decide_eq_true rfl, fun _ => rfl⟩
theorem atomicFetchAnd64 (dst : Reg) (src : Reg) (off : BitVec 16) : Statement (.atomicFetchAnd64 dst src off) :=
  ⟨of_decide_eq_true rfl, of_decide_eq_true rfl, fun _ => rfl⟩
theorem atomicXor64 (dst : Reg) (src : Reg) (off : BitVec 16) : Statement (.atomicXor64 dst src off) :=
  ⟨of_decide_eq_true rfl, of_decide_eq_true rfl, fun _ => rfl⟩
theorem atomicFetchXor64 (dst : Reg) (src : Reg) (off : BitVec 16) : Statement (.atomicFetchXor64 dst src off) :=
  ⟨of_decide_eq_true rfl, of_decide_eq_true rfl, fun _ => rfl⟩
theorem atomicXchg64 (dst : Reg) (src : Reg) (off : BitVec 16) : Statement (.atomicXchg64 dst src off) :=
  ⟨of_decide_eq_true rfl, of_decide_eq_true rfl, fun _ => rfl⟩
theorem atomicCmpxchg64 (dst : Reg) (src : Reg) (off : BitVec 16) : Statement (.atomicCmpxchg64 dst src off) :=
  ⟨of_decide_eq_true rfl, of_decide_eq_true rfl, fun _ => rfl⟩
theorem lddw (dst : Reg) (imm : BitVec 32) (nextImm : BitVec 32) : Statement (.lddw dst imm nextImm) :=
  ⟨of_decide_eq_true rfl, of_decide_eq_true rfl, fun _ => rfl⟩
theorem ldMapFd (dst : Reg) (imm : BitVec 32) : Statement (.ldMapFd dst imm) :=
  ⟨of_decide_eq_true rfl, of_decide_eq_true rfl, fun _ => rfl⟩
theorem ldMapValueFd (dst : Reg) (imm : BitVec 32) (nextImm : BitVec 32) : Statement (.ldMapValueFd dst imm nextImm) :=
  ⟨of_decide_eq_true rfl, of_decide_eq_true rfl, fun _ => rfl⟩
theorem ldVarAddr (dst : Reg) (imm : BitVec 32) : Statement (.ldVarAddr dst imm) :=
  ⟨of_decide_eq_true rfl, of_decide_eq_true rfl, fun _ => rfl⟩
theorem ldCodeAddr (dst : Reg) (imm : BitVec 32) : Statement (.ldCodeAddr dst imm) :=
  ⟨of_decide_eq_true rfl, of_decide_eq_true rfl, fun _ => rfl⟩
theorem ldMapIdx (dst : Reg) (imm : BitVec 32) : Statement (.ldMapIdx dst imm) :=
  ⟨of_decide_eq_true rfl, of_decide_eq_true rfl, fun _ => rfl⟩
theorem ldMapValueIdx (dst : Reg) (imm : BitVec 32) (nextImm : BitVec 32) : Statement (.ldMapValueIdx dst imm nextImm) :=
  ⟨of_decide_eq_true rfl, of_decide_eq_true rfl, fun _ => rfl⟩
theorem ldabsw (dst : Reg) (src : Reg) (off : BitVec 16) (imm : BitVec 32) : Statement (.ldabsw dst src off imm) :=
  ⟨of_decide_eq_true rfl, of_decide_eq_true rfl, fun _ => rfl⟩
theorem ldabsh (dst : Reg) (src : Reg) (off : BitVec 16) (imm : BitVec 32) : Statement (.ldabsh dst src off imm) :=
  ⟨of_decide_eq_true rfl, of_decide_eq_true rfl, fun _ => rfl⟩
theorem ldabsb (dst : Reg) (src : Reg) (off : BitVec 16) (imm : BitVec 32) : Statement (.ldabsb dst src off imm) :=
  ⟨of_decide_eq_true rfl, of_decide_eq_true rfl, fun _ => rfl⟩
theorem ldindw (dst : Reg) (src : Reg) (off : BitVec 16) (imm : BitVec 32) : Statement (.ldindw dst src off imm) :=
  ⟨of_decide_eq_true rfl, of_decide_eq_true rfl, fun _ => rfl⟩
theorem ldindh (dst : Reg) (src : Reg) (off : BitVec 16) (imm : BitVec 32) : Statement (.ldindh dst src off imm) :=
  ⟨of_decide_eq_true rfl, of_decide_eq_true rfl, fun _ => rfl⟩
theorem ldindb (dst : Reg) (src : Reg) (off : BitVec 16) (imm : BitVec 32) : Statement (.ldindb dst src off imm) :=
  ⟨of_decide_eq_true rfl, of_decide_eq_true rfl, fun _ => rfl⟩

end Sys2Proof.Laws.EncodedLength
end

