-- ==== Sys2Proof/Tests/Slice0.lean ====
section
/-! SUPPORT. The author's own tests: ill-formed instructions refused, words written out from the spec's encodings decoded,
single steps with the results that spec/95_test_vectors.md and the rules' examples give, and for every statement with
hypotheses a state and operands that meet them. -/

namespace Sys2Proof.Tests
open Sys2Proof.Machine

/-! ### Helpers. -/

/-- The bytes of a slot written as one numeral, the byte at the lowest address first. -/
def slotBytes (n : Nat) : List Byte :=
  [56, 48, 40, 32, 24, 16, 8, 0].map fun k => BitVec.ofNat 8 (n / 2 ^ k)

/-- `len` bytes of memory from an address on, written as one numeral, the byte at the lowest address first. -/
def cells (a len n : Nat) : List Host.Cell :=
  (List.range len).map fun i => (a + i, BitVec.ofNat 8 (n / 256 ^ (len - 1 - i)))

/-- The decoder reads exactly this instruction from the slots. -/
def reads (e : Endian) (slots : List Nat) (i : Instr) : Bool :=
  match decodeBytes e (slots.flatMap slotBytes) with
  | .ok (j, []) => decide (j = i)
  | _ => false

/-- The decoder refuses the slots with this error. -/
def rejects (e : Endian) (slots : List Nat) (x : DecodeError) : Bool :=
  match decodeBytes e (slots.flatMap slotBytes) with
  | .ok _ => false
  | .error y => decide (y = x)

/-- The platform of the spec's vectors (95_test_vectors.md): its stack area and its tables. -/
def platform (e : Endian) (regs : List (Reg × Word)) (program : List Slot) : Platform :=
  { Platform.atReset with
    endian := e, program := program, entryRegs := regs
    regions := [⟨0xee00, 0x1200, [1, 2, 4, 8], [1, 2, 4, 8], [4, 8], false⟩]
    helpers := ⟨[⟨1, [1, 2]⟩], false⟩, btfHelpers := ⟨[], false⟩
    mapByFd := ⟨[(5, 0x7000)], false⟩, mapByIdx := ⟨[(0, 0x7000)], false⟩
    mapVal := ⟨[(0x7000, 0x20000)], false⟩, varAddr := ⟨[(3, 0x30000)], false⟩ }

/-- A run of the given slots at index `pc`, entered there with these registers written and these bytes of memory. -/
def start (e : Endian) (pc : Nat) (regs : List (Reg × Word)) (mem : List Host.Cell) (slots : List Nat) : State :=
  { State.entry (platform e regs (List.replicate pc (idleSlot e) ++ slotsOfBytes (slots.flatMap slotBytes))) mem with
    pc := pc }

/-- `start` at slot 0 of a little-endian platform. -/
abbrev little := start .little 0

/-- `start` at slot 0 of a big-endian platform. -/
abbrev big := start .big 0

/-- The last 16 bytes of the stack area, as the spec's vectors of atomic operations have them. -/
def stackTop : List Host.Cell := cells 0xfff0 16 0xffffffff01000000f00f000000000000

/-- A slot of zeros, a reserved encoding. -/
def idleZero : Slot := ⟨0, 0, 0, 0, 0, 0, 0, 0⟩

/-- The step answers a next state with this `pc`, these registers and these bytes of memory. -/
def shows (r : Result) (pc : Int) (regs : List (Reg × Option Word)) (mem : List Host.Cell) : Bool :=
  match r with
  | .next t => decide (t.pc = pc) && regs.all (fun p => decide (t.reg p.1 = p.2)) &&
      mem.all fun c => decide (t.byteAt c.1 = c.2)
  | _ => false

/-- The step ends in this fault. -/
def faults (r : Result) (f : Fault) : Bool :=
  match r with
  | .fault g => decide (g = f)
  | _ => false

/-! ### Ill-formed instructions, one for each register field that is checked (30_encoding.md R83). -/

theorem test_wf_alu_k_dst_eleven : Instr.wf (.add32Imm 11 0) = false := by decide
theorem test_wf_alu_x_dst_eleven : Instr.wf (.add32Reg 11 0) = false := by decide
theorem test_wf_alu_x_src_eleven : Instr.wf (.add32Reg 0 11) = false := by decide
theorem test_wf_alu_neg_dst_eleven : Instr.wf (.neg32 11) = false := by decide
theorem test_wf_alu_end_dst_eleven : Instr.wf (.le16 11) = false := by decide
theorem test_wf_jcc_k_dst_eleven : Instr.wf (.jeqImm 11 0 0) = false := by decide
theorem test_wf_jcc_x_dst_eleven : Instr.wf (.jeqReg 11 0 0) = false := by decide
theorem test_wf_jcc_x_src_eleven : Instr.wf (.jeqReg 0 11 0) = false := by decide
theorem test_wf_stx_dst_eleven : Instr.wf (.stxb 11 0 0) = false := by decide
theorem test_wf_stx_src_eleven : Instr.wf (.stxb 0 11 0) = false := by decide
theorem test_wf_st_dst_eleven : Instr.wf (.stb 11 0 0) = false := by decide
theorem test_wf_ldx_dst_eleven : Instr.wf (.ldxb 11 0 0) = false := by decide
theorem test_wf_ldx_src_eleven : Instr.wf (.ldxb 0 11 0) = false := by decide
theorem test_wf_atomic_dst_eleven : Instr.wf (.atomicAdd32 11 0 0) = false := by decide
theorem test_wf_atomic_src_eleven : Instr.wf (.atomicAdd32 0 11 0) = false := by decide
theorem test_wf_lddw_dst_eleven : Instr.wf (.lddw 11 0 0) = false := by decide

/-- 15 is refused as 11 is, 10 is accepted, and a selector is no register: `call_btf` and subtype 6 are well-formed. -/
theorem test_wf_boundary :
    Instr.wf (.add64Reg 15 0) = false ∧ Instr.wf (.add64Reg 10 10) = true ∧ Instr.wf (.callBtf 77) = true ∧
      Instr.wf (.ldMapValueIdx 10 1 8) = true := by decide

/-! ### Every constructor's decoding, from the example bytes of its rule (little-endian BPF). -/

theorem test_decode_alu_k_1 :
    ([([0x0401000001000000], .add32Imm 1 1),
      ([0x07010000ffffffff], .add64Imm 1 0xffffffff),
      ([0x1401000001000000], .sub32Imm 1 1),
      ([0x1701000001000000], .sub64Imm 1 1),
      ([0x2401000002000000], .mul32Imm 1 2),
      ([0x27010000feffffff], .mul64Imm 1 0xfffffffe),
      ([0x3401000003000000], .div32Imm 1 3),
      ([0x37010000ffffffff], .div64Imm 1 0xffffffff),
      ([0x3401010002000000], .sdiv32Imm 1 2),
      ([0x37010100feffffff], .sdiv64Imm 1 0xfffffffe),
      ([0x4401000010000000], .or32Imm 1 0x10),
      ([0x4701000000000080], .or64Imm 1 0x80000000)] :
      List (List Nat × Instr)).all (fun p => reads .little p.1 p.2) = true := by decide
theorem test_decode_alu_k_2 :
    ([([0x54010000ff000000], .and32Imm 1 0xff),
      ([0x5701000000ffffff], .and64Imm 1 0xffffff00),
      ([0x640100001f000000], .lsh32Imm 1 0x1f),
      ([0x670100003f000000], .lsh64Imm 1 0x3f),
      ([0x740100001f000000], .rsh32Imm 1 0x1f),
      ([0x770100003f000000], .rsh64Imm 1 0x3f),
      ([0x9401000003000000], .mod32Imm 1 3),
      ([0x9701000000000000], .mod64Imm 1 0),
      ([0x9401010002000000], .smod32Imm 1 2),
      ([0x97010100feffffff], .smod64Imm 1 0xfffffffe),
      ([0xa4010000ffffffff], .xor32Imm 1 0xffffffff),
      ([0xa7010000ffffffff], .xor64Imm 1 0xffffffff)] :
      List (List Nat × Instr)).all (fun p => reads .little p.1 p.2) = true := by decide
theorem test_decode_alu_k_3 :
    ([([0xb4010000ffffffff], .mov32Imm 1 0xffffffff),
      ([0xb7010000ffffffff], .mov64Imm 1 0xffffffff),
      ([0xc401000004000000], .arsh32Imm 1 4),
      ([0xc70100003f000000], .arsh64Imm 1 0x3f)] :
      List (List Nat × Instr)).all (fun p => reads .little p.1 p.2) = true := by decide
theorem test_decode_alu_x_1 :
    ([([0x0c21000000000000], .add32Reg 1 2),
      ([0x0f21000000000000], .add64Reg 1 2),
      ([0x1c21000000000000], .sub32Reg 1 2),
      ([0x1f21000000000000], .sub64Reg 1 2),
      ([0x2c21000000000000], .mul32Reg 1 2),
      ([0x2f21000000000000], .mul64Reg 1 2),
      ([0x3c21000000000000], .div32Reg 1 2),
      ([0x3f21000000000000], .div64Reg 1 2),
      ([0x3c21010000000000], .sdiv32Reg 1 2),
      ([0x3f21010000000000], .sdiv64Reg 1 2),
      ([0x4c21000000000000], .or32Reg 1 2),
      ([0x4f21000000000000], .or64Reg 1 2)] :
      List (List Nat × Instr)).all (fun p => reads .little p.1 p.2) = true := by decide
theorem test_decode_alu_x_2 :
    ([([0x5c21000000000000], .and32Reg 1 2),
      ([0x5f21000000000000], .and64Reg 1 2),
      ([0x6c21000000000000], .lsh32Reg 1 2),
      ([0x6f21000000000000], .lsh64Reg 1 2),
      ([0x7c21000000000000], .rsh32Reg 1 2),
      ([0x7f21000000000000], .rsh64Reg 1 2),
      ([0x9c21000000000000], .mod32Reg 1 2),
      ([0x9f21000000000000], .mod64Reg 1 2),
      ([0x9c21010000000000], .smod32Reg 1 2),
      ([0x9f21010000000000], .smod64Reg 1 2),
      ([0xac21000000000000], .xor32Reg 1 2),
      ([0xaf21000000000000], .xor64Reg 1 2)] :
      List (List Nat × Instr)).all (fun p => reads .little p.1 p.2) = true := by decide
theorem test_decode_alu_x_3 :
    ([([0xbc21000000000000], .mov32Reg 1 2),
      ([0xbf21000000000000], .mov64Reg 1 2),
      ([0xbc21080000000000], .movsx8To32 1 2),
      ([0xbc21100000000000], .movsx16To32 1 2),
      ([0xbf21080000000000], .movsx8To64 1 2),
      ([0xbf21100000000000], .movsx16To64 1 2),
      ([0xbf21200000000000], .movsx32To64 1 2),
      ([0xcc21000000000000], .arsh32Reg 1 2),
      ([0xcf21000000000000], .arsh64Reg 1 2)] :
      List (List Nat × Instr)).all (fun p => reads .little p.1 p.2) = true := by decide
theorem test_decode_alu_neg :
    ([([0x8401000000000000], .neg32 1),
      ([0x8701000000000000], .neg64 1)] :
      List (List Nat × Instr)).all (fun p => reads .little p.1 p.2) = true := by decide
theorem test_decode_alu_end :
    ([([0xd401000010000000], .le16 1),
      ([0xd401000020000000], .le32 1),
      ([0xd401000040000000], .le64 1),
      ([0xdc01000010000000], .be16 1),
      ([0xdc01000020000000], .be32 1),
      ([0xdc01000040000000], .be64 1),
      ([0xd701000010000000], .bswap16 1),
      ([0xd701000020000000], .bswap32 1),
      ([0xd701000040000000], .bswap64 1)] :
      List (List Nat × Instr)).all (fun p => reads .little p.1 p.2) = true := by decide
theorem test_decode_ja16 :
    ([([0x0500030000000000], .ja 3)] :
      List (List Nat × Instr)).all (fun p => reads .little p.1 p.2) = true := by decide
theorem test_decode_ja32 :
    ([([0x06000000a0860100], .ja32 0x186a0)] :
      List (List Nat × Instr)).all (fun p => reads .little p.1 p.2) = true := by decide
theorem test_decode_jcc_k_1 :
    ([([0x1501040001000000], .jeqImm 1 4 1),
      ([0x1601040001000000], .jeq32Imm 1 4 1),
      ([0x2501040001000000], .jgtImm 1 4 1),
      ([0x2601040001000000], .jgt32Imm 1 4 1),
      ([0x3501040001000000], .jgeImm 1 4 1),
      ([0x3601040001000000], .jge32Imm 1 4 1),
      ([0x4501040001000000], .jsetImm 1 4 1),
      ([0x4601040001000000], .jset32Imm 1 4 1),
      ([0x5501040001000000], .jneImm 1 4 1),
      ([0x5601040001000000], .jne32Imm 1 4 1),
      ([0x6501040001000000], .jsgtImm 1 4 1),
      ([0x6601040001000000], .jsgt32Imm 1 4 1)] :
      List (List Nat × Instr)).all (fun p => reads .little p.1 p.2) = true := by decide
theorem test_decode_jcc_k_2 :
    ([([0x7501040001000000], .jsgeImm 1 4 1),
      ([0x7601040001000000], .jsge32Imm 1 4 1),
      ([0xa501040001000000], .jltImm 1 4 1),
      ([0xa601040001000000], .jlt32Imm 1 4 1),
      ([0xb501040001000000], .jleImm 1 4 1),
      ([0xb601040001000000], .jle32Imm 1 4 1),
      ([0xc501040001000000], .jsltImm 1 4 1),
      ([0xc601040001000000], .jslt32Imm 1 4 1),
      ([0xd501040001000000], .jsleImm 1 4 1),
      ([0xd601040001000000], .jsle32Imm 1 4 1)] :
      List (List Nat × Instr)).all (fun p => reads .little p.1 p.2) = true := by decide
theorem test_decode_jcc_x_1 :
    ([([0x1d21040000000000], .jeqReg 1 2 4),
      ([0x1e21040000000000], .jeq32Reg 1 2 4),
      ([0x2d21040000000000], .jgtReg 1 2 4),
      ([0x2e21040000000000], .jgt32Reg 1 2 4),
      ([0x3d21040000000000], .jgeReg 1 2 4),
      ([0x3e21040000000000], .jge32Reg 1 2 4),
      ([0x4d21040000000000], .jsetReg 1 2 4),
      ([0x4e21040000000000], .jset32Reg 1 2 4),
      ([0x5d21040000000000], .jneReg 1 2 4),
      ([0x5e21040000000000], .jne32Reg 1 2 4),
      ([0x6d21040000000000], .jsgtReg 1 2 4),
      ([0x6e21040000000000], .jsgt32Reg 1 2 4)] :
      List (List Nat × Instr)).all (fun p => reads .little p.1 p.2) = true := by decide
theorem test_decode_jcc_x_2 :
    ([([0x7d21040000000000], .jsgeReg 1 2 4),
      ([0x7e21040000000000], .jsge32Reg 1 2 4),
      ([0xad21040000000000], .jltReg 1 2 4),
      ([0xae21040000000000], .jlt32Reg 1 2 4),
      ([0xbd21040000000000], .jleReg 1 2 4),
      ([0xbe21040000000000], .jle32Reg 1 2 4),
      ([0xcd21040000000000], .jsltReg 1 2 4),
      ([0xce21040000000000], .jslt32Reg 1 2 4),
      ([0xdd21040000000000], .jsleReg 1 2 4),
      ([0xde21040000000000], .jsle32Reg 1 2 4)] :
      List (List Nat × Instr)).all (fun p => reads .little p.1 p.2) = true := by decide
theorem test_decode_call :
    ([([0x8500000001000000], .callHelper 1),
      ([0x8510000004000000], .callLocal 4),
      ([0x852000004d000000], .callBtf 0x4d)] :
      List (List Nat × Instr)).all (fun p => reads .little p.1 p.2) = true := by decide
theorem test_decode_exit :
    ([([0x9500000000000000], .exit)] :
      List (List Nat × Instr)).all (fun p => reads .little p.1 p.2) = true := by decide
theorem test_decode_ldx :
    ([([0x7121080000000000], .ldxb 1 2 8),
      ([0x6921080000000000], .ldxh 1 2 8),
      ([0x6121080000000000], .ldxw 1 2 8),
      ([0x7921080000000000], .ldxdw 1 2 8),
      ([0x9121080000000000], .ldxsb 1 2 8),
      ([0x8921080000000000], .ldxsh 1 2 8),
      ([0x8121080000000000], .ldxsw 1 2 8)] :
      List (List Nat × Instr)).all (fun p => reads .little p.1 p.2) = true := by decide
theorem test_decode_st :
    ([([0x72010800feffffff], .stb 1 8 0xfffffffe),
      ([0x6a010800feffffff], .sth 1 8 0xfffffffe),
      ([0x62010800feffffff], .stw 1 8 0xfffffffe),
      ([0x7a010800feffffff], .stdw 1 8 0xfffffffe)] :
      List (List Nat × Instr)).all (fun p => reads .little p.1 p.2) = true := by decide
theorem test_decode_stx :
    ([([0x7321080000000000], .stxb 1 2 8),
      ([0x6b21080000000000], .stxh 1 2 8),
      ([0x6321080000000000], .stxw 1 2 8),
      ([0x7b21080000000000], .stxdw 1 2 8)] :
      List (List Nat × Instr)).all (fun p => reads .little p.1 p.2) = true := by decide
theorem test_decode_atomic_1 :
    ([([0xc321080000000000], .atomicAdd32 1 2 8),
      ([0xc321080001000000], .atomicFetchAdd32 1 2 8),
      ([0xc321080040000000], .atomicOr32 1 2 8),
      ([0xc321080041000000], .atomicFetchOr32 1 2 8),
      ([0xc321080050000000], .atomicAnd32 1 2 8),
      ([0xc321080051000000], .atomicFetchAnd32 1 2 8),
      ([0xc3210800a0000000], .atomicXor32 1 2 8),
      ([0xc3210800a1000000], .atomicFetchXor32 1 2 8),
      ([0xc3210800e1000000], .atomicXchg32 1 2 8),
      ([0xc3210800f1000000], .atomicCmpxchg32 1 2 8),
      ([0xdb21080000000000], .atomicAdd64 1 2 8),
      ([0xdb21080001000000], .atomicFetchAdd64 1 2 8)] :
      List (List Nat × Instr)).all (fun p => reads .little p.1 p.2) = true := by decide
theorem test_decode_atomic_2 :
    ([([0xdb21080040000000], .atomicOr64 1 2 8),
      ([0xdb21080041000000], .atomicFetchOr64 1 2 8),
      ([0xdb21080050000000], .atomicAnd64 1 2 8),
      ([0xdb21080051000000], .atomicFetchAnd64 1 2 8),
      ([0xdb210800a0000000], .atomicXor64 1 2 8),
      ([0xdb210800a1000000], .atomicFetchXor64 1 2 8),
      ([0xdb210800e1000000], .atomicXchg64 1 2 8),
      ([0xdb210800f1000000], .atomicCmpxchg64 1 2 8)] :
      List (List Nat × Instr)).all (fun p => reads .little p.1 p.2) = true := by decide
theorem test_decode_lddw :
    ([([0x1801000088776655, 0x0000000044332211], .lddw 1 0x55667788 0x11223344),
      ([0x1811000005000000, 0x0000000000000000], .ldMapFd 1 5),
      ([0x1821000005000000, 0x0000000010000000], .ldMapValueFd 1 5 0x10),
      ([0x1831000007000000, 0x0000000000000000], .ldVarAddr 1 7),
      ([0x184100000a000000, 0x0000000000000000], .ldCodeAddr 1 0xa),
      ([0x1851000000000000, 0x0000000000000000], .ldMapIdx 1 0),
      ([0x1861000000000000, 0x0000000008000000], .ldMapValueIdx 1 0 8)] :
      List (List Nat × Instr)).all (fun p => reads .little p.1 p.2) = true := by decide
theorem test_decode_legacy :
    ([([0x200000000e000000], .ldabsw 0 0 0 0xe),
      ([0x280000000e000000], .ldabsh 0 0 0 0xe),
      ([0x300000000e000000], .ldabsb 0 0 0 0xe),
      ([0x400000000e000000], .ldindw 0 0 0 0xe),
      ([0x480000000e000000], .ldindh 0 0 0 0xe),
      ([0x500000000e000000], .ldindb 0 0 0 0xe)] :
      List (List Nat × Instr)).all (fun p => reads .little p.1 p.2) = true := by decide

/-- The decode vectors of 95_test_vectors.md section 3 that give an instruction, in both byte orders. -/
theorem test_decode_both_orders_1 :
    ([([0x0701000044332211], [0x0710000011223344], .add64Imm 1 0x11223344),
      ([0x0c43000000000000], [0x0c34000000000000], .add32Reg 3 4),
      ([0x3f21010000000000], [0x3f12000100000000], .sdiv64Reg 1 2),
      ([0x94050100fdffffff], [0x94500001fffffffd], .smod32Imm 5 0xfffffffd),
      ([0xbf76100000000000], [0xbf67001000000000], .movsx16To64 6 7),
      ([0x8709000000000000], [0x8790000000000000], .neg64 9),
      ([0xd401000010000000], [0xd410000000000010], .le16 1),
      ([0xdc02000040000000], [0xdc20000000000040], .be64 2),
      ([0xd703000020000000], [0xd730000000000020], .bswap32 3),
      ([0x0500ffff00000000], [0x0500ffff00000000], .ja 0xffff)] :
      List (List Nat × List Nat × Instr)).all (fun p => reads .little p.1 p.2.2 && reads .big p.2.1 p.2.2) = true := by
  decide
theorem test_decode_both_orders_2 :
    ([([0x0600000045230100], [0x0600000000012345], .ja32 0x12345),
      ([0x7e21030000000000], [0x7e12000300000000], .jsge32Reg 1 2 3),
      ([0x4504feffff000000], [0x4540fffe000000ff], .jsetImm 4 0xfffe 0xff),
      ([0x850000000c000000], [0x850000000000000c], .callHelper 0xc),
      ([0x85100000fbffffff], [0x85010000fffffffb], .callLocal 0xfffffffb),
      ([0x85200000e8030000], [0x85020000000003e8], .callBtf 0x3e8),
      ([0x9500000000000000], [0x9500000000000000], .exit),
      ([0x7121ffff00000000], [0x7112ffff00000000], .ldxb 1 2 0xffff),
      ([0x81a0fcff00000000], [0x810afffc00000000], .ldxsw 0 0xa 0xfffc),
      ([0x620af8ffffffffff], [0x62a0fff8ffffffff], .stw 0xa 0xfff8 0xffffffff)] :
      List (List Nat × List Nat × Instr)).all (fun p => reads .little p.1 p.2.2 && reads .big p.2.1 p.2.2) = true := by
  decide
theorem test_decode_both_orders_3 :
    ([([0x7b0af8ff00000000], [0x7ba0fff800000000], .stxdw 0xa 0 0xfff8),
      ([0xc3210400a1000000], [0xc3120004000000a1], .atomicFetchXor32 1 2 4),
      ([0xdb430000f1000000], [0xdb340000000000f1], .atomicCmpxchg64 3 4 0),
      ([0x1801000088776655, 0x0000000044332211], [0x1810000055667788, 0x0000000011223344], .lddw 1 0x55667788 0x11223344),
      ([0x1862000001000000, 0x0000000008000000], [0x1826000000000001, 0x0000000000000008], .ldMapValueIdx 2 1 8),
      ([0xdbaa0000f1000000], [0xdbaa0000000000f1], .atomicCmpxchg64 0xa 0xa 0),
      ([0x7baaf8ff00000000], [0x7baafff800000000], .stxdw 0xa 0xa 0xfff8)] :
      List (List Nat × List Nat × Instr)).all (fun p => reads .little p.1 p.2.2 && reads .big p.2.1 p.2.2) = true := by
  decide

/-- The decode vectors of 95_test_vectors.md section 3 that are reserved encodings, in both byte orders. -/
theorem test_decode_reserved_1 :
    ([([0x0721000001000000], [0x0712000000000001], .unusedField),
      ([0x0f21000001000000], [0x0f12000000000001], .unusedField),
      ([0x3701020001000000], [0x3710000200000001], .badSelector),
      ([0xbf21180000000000], [0xbf12001800000000], .badSelector),
      ([0xb701080001000000], [0xb710000800000001], .badSelector),
      ([0xd401000018000000], [0xd410000000000018], .badSelector),
      ([0xdf01000040000000], [0xdf10000000000040], .unknownOpcode),
      ([0x0501020000000000], [0x0510000200000000], .unusedField),
      ([0x0600020005000000], [0x0600000200000005], .unusedField),
      ([0x0d10020000000000], [0x0d01000200000000], .unknownOpcode)] :
      List (List Nat × List Nat × DecodeError)).all
      (fun p => rejects .little p.1 p.2.2 && rejects .big p.2.1 p.2.2) = true := by
  decide
theorem test_decode_reserved_2 :
    ([([0x8501000001000000], [0x8510000000000001], .unusedField),
      ([0x8d10000000000000], [0x8d01000000000000], .unknownOpcode),
      ([0x9500000001000000], [0x9500000000000001], .unusedField),
      ([0x1d1c010000000000], [0x1dc1000100000000], .badRegister),
      ([0x6121000007000000], [0x6112000000000007], .unusedField),
      ([0x6221000007000000], [0x6212000000000007], .unusedField),
      ([0xc321000010000000], [0xc312000000000010], .badSelector),
      ([0xc321000001010000], [0xc312000000000101], .badSelector),
      ([0xdb210000f0000000], [0xdb120000000000f0], .badSelector),
      ([0xc201000000000000], [0xc210000000000000], .unknownOpcode)] :
      List (List Nat × List Nat × DecodeError)).all
      (fun p => rejects .little p.1 p.2.2 && rejects .big p.2.1 p.2.2) = true := by
  decide
theorem test_decode_reserved_3 :
    ([([0x1841010000000000, 0x0000000000000000], [0x1814000100000000, 0x0000000000000000], .unusedField),
      ([0x180b000000000000, 0x0000000000000000], [0x18b0000000000000, 0x0000000000000000], .badRegister)] :
      List (List Nat × List Nat × DecodeError)).all
      (fun p => rejects .little p.1 p.2.2 && rejects .big p.2.1 p.2.2) = true := by
  decide

/-- The second slot of a wide instruction (95_test_vectors.md V174, V175, V176) and the empty program. -/
theorem test_decode_second_slot :
    rejects .little [0x1801000001000000, 0x0700000000000000] .badSecondSlot = true ∧
      rejects .little [0x1811000005000000, 0x0000000001000000] .badSecondSlot = true ∧
      rejects .little [0x1801000001000000] .missingSecondSlot = true ∧ rejects .little [] .noSlot = true := by decide

/-- The host's numbering: bit 0 is the lowest bit of the opcode byte (30_encoding.md R64), and an opcode 0x18 takes the
second slot from bits 127 to 64. -/
theorem test_table_word :
    decodeTableWord 64 0x1122334400000107 = some (.add64Imm 1 0x11223344) ∧
      decodeTableWord 128 0x11223344000000005566778800000118 = some (.lddw 1 0x55667788 0x11223344) ∧
      decodeTableWord 64 0xff = none := by decide

/-! ### One step, with the results of 95_test_vectors.md. -/

theorem test_v1_source_example_s3_32_bit_add_zeroes :
    shows (step (little [(1, 0xffffffff00000005), (2, 0x1fffffffe)] [] [0x0c21000000000000]))
      1 [(1, some 3)] [] = true := by decide
theorem test_v3_source_example_s3_32_bit_xor_with :
    shows (step (little [(1, 0x123456789abcdef0)] [] [0xa4010000ffffffff]))
      1 [(1, some 0x6543210f)] [] = true := by decide
theorem test_v4_source_example_s3_64_bit_xor_imm :
    shows (step (little [(1, 0x123456789abcdef0)] [] [0xa7010000ffffffff]))
      1 [(1, some 0xedcba9876543210f)] [] = true := by decide
theorem test_v7_64_bit_add_of_negative_imm :
    shows (step (little [(1, 0x10000)] [] [0x07010000f8ffffff]))
      1 [(1, some 0xfff8)] [] = true := by decide
theorem test_v9_32_bit_subtract_below_zero_wraps_upper :
    shows (step (little [(1, 0), (2, 1)] [] [0x1c21000000000000]))
      1 [(1, some 0xffffffff)] [] = true := by decide
theorem test_v12_unsigned_divide :
    shows (step (little [(1, 0x64), (2, 7)] [] [0x3f21000000000000]))
      1 [(1, some 0xe)] [] = true := by decide
theorem test_v13_divide_by_zero_register_gives_0_64 :
    shows (step (little [(1, 0x64), (2, 0)] [] [0x3f21000000000000]))
      1 [(1, some 0)] [] = true := by decide
theorem test_v14_divide_by_zero_gives_0_32_bit :
    shows (step (little [(1, 0xaaaaaaaa00000064), (2, 0xffffffff00000000)] [] [0x3c21000000000000]))
      1 [(1, some 0)] [] = true := by decide
theorem test_v15_divide_by_zero_imm :
    shows (step (little [(1, 0x64)] [] [0x3701000000000000]))
      1 [(1, some 0)] [] = true := by decide
theorem test_v16_64_bit_unsigned_divide_by_imm_1 :
    shows (step (little [(1, 0xfffffffffffffffe)] [] [0x37010000ffffffff]))
      1 [(1, some 0)] [] = true := by decide
theorem test_v17_32_bit_unsigned_divide_by_imm_1 :
    shows (step (little [(1, 0xfffffffe)] [] [0x34010000ffffffff]))
      1 [(1, some 0)] [] = true := by decide
theorem test_v18_signed_divide_truncates_toward_zero :
    shows (step (little [(1, 0xfffffffffffffff9)] [] [0x3701010002000000]))
      1 [(1, some 0xfffffffffffffffd)] [] = true := by decide
theorem test_v19_signed_divide_negative_divisor :
    shows (step (little [(1, 7), (2, 0xfffffffffffffffe)] [] [0x3f21010000000000]))
      1 [(1, some 0xfffffffffffffffd)] [] = true := by decide
theorem test_v20_signed_divide_most_negative_by_1_wraps :
    shows (step (little [(1, 0x8000000000000000)] [] [0x37010100ffffffff]))
      1 [(1, some 0x8000000000000000)] [] = true := by decide
theorem test_v21_signed_divide_most_negative_by_1_wraps :
    shows (step (little [(1, 0x80000000), (2, 0xffffffff)] [] [0x3c21010000000000]))
      1 [(1, some 0x80000000)] [] = true := by decide
theorem test_v22_signed_32_bit_divide_result_zero_extended :
    shows (step (little [(1, 0xfffffff9)] [] [0x3401010002000000]))
      1 [(1, some 0xfffffffd)] [] = true := by decide
theorem test_v23_signed_divide_by_zero_gives_0 :
    shows (step (little [(1, 0xfffffffffffffff9), (2, 0)] [] [0x3f21010000000000]))
      1 [(1, some 0)] [] = true := by decide
theorem test_v24_unsigned_modulo :
    shows (step (little [(1, 0x64)] [] [0x9701000007000000]))
      1 [(1, some 2)] [] = true := by decide
theorem test_v25_modulo_by_zero_64_bit_unchanged :
    shows (step (little [(1, 0xaaaaaaaa00000064), (2, 0)] [] [0x9f21000000000000]))
      1 [(1, some 0xaaaaaaaa00000064)] [] = true := by decide
theorem test_v26_modulo_by_zero_32_bit_upper_half :
    shows (step (little [(1, 0xaaaaaaaa00000064), (2, 0)] [] [0x9c21000000000000]))
      1 [(1, some 0x64)] [] = true := by decide
theorem test_v27_signed_modulo_takes_the_sign_of_the :
    shows (step (little [(1, 0xfffffffffffffff9)] [] [0x9701010002000000]))
      1 [(1, some 0xffffffffffffffff)] [] = true := by decide
theorem test_v28_signed_modulo_negative_divisor :
    shows (step (little [(1, 7), (2, 0xfffffffffffffffe)] [] [0x9f21010000000000]))
      1 [(1, some 1)] [] = true := by decide
theorem test_v29_signed_modulo_most_negative_by_1_is :
    shows (step (little [(1, 0x8000000000000000)] [] [0x97010100ffffffff]))
      1 [(1, some 0)] [] = true := by decide
theorem test_v30_signed_modulo_by_zero_32_bit_low :
    shows (step (little [(1, 0xaaaaaaaafffffff9)] [] [0x9401010000000000]))
      1 [(1, some 0xfffffff9)] [] = true := by decide
theorem test_v31_or_with_negative_imm_sign_extends_64 :
    shows (step (little [(1, 1)] [] [0x4701000000000080]))
      1 [(1, some 0xffffffff80000001)] [] = true := by decide
theorem test_v33_and_with_imm_16_64_bit_keeps :
    shows (step (little [(1, 0x123456789abcdeff)] [] [0x57010000f0ffffff]))
      1 [(1, some 0x123456789abcdef0)] [] = true := by decide
theorem test_v34_shift_left_by_64_amount_masked_to :
    shows (step (little [(1, 0x1234), (2, 0x40)] [] [0x6f21000000000000]))
      1 [(1, some 0x1234)] [] = true := by decide
theorem test_v36_32_bit_shift_left_by_33_amount :
    shows (step (little [(1, 0xffffffffc0000001), (2, 0x21)] [] [0x6c21000000000000]))
      1 [(1, some 0x80000002)] [] = true := by decide
theorem test_v40_arithmetic_shift_right_32_bit_sign_is :
    shows (step (little [(1, 0x80000000)] [] [0xc401000004000000]))
      1 [(1, some 0xf8000000)] [] = true := by decide
theorem test_v41_arithmetic_shift_right_by_register_0xff_masked :
    shows (step (little [(1, 0x8000000000000000), (2, 0xff)] [] [0xcf21000000000000]))
      1 [(1, some 0xffffffffffffffff)] [] = true := by decide
theorem test_v43_negate_the_most_negative_value_wraps_to :
    shows (step (little [(1, 0x8000000000000000)] [] [0x8701000000000000]))
      1 [(1, some 0x8000000000000000)] [] = true := by decide
theorem test_v45_64_bit_move_of_negative_imm_sign :
    shows (step (little [] [] [0xb7010000feffffff]))
      1 [(1, some 0xfffffffffffffffe)] [] = true := by decide
theorem test_v46_32_bit_move_of_negative_imm_zero :
    shows (step (little [] [] [0xb4010000feffffff]))
      1 [(1, some 0xfffffffe)] [] = true := by decide
theorem test_v47_32_bit_register_move_truncates_and_zero :
    shows (step (little [(2, 0x123456789abcdef0)] [] [0xbc21000000000000]))
      1 [(1, some 0x9abcdef0)] [] = true := by decide
theorem test_v49_movsx_8_to_32_upper_half_zero :
    shows (step (little [(2, 0x1234567890abcd80)] [] [0xbc21080000000000]))
      1 [(1, some 0xffffff80)] [] = true := by decide
theorem test_v60_le16_on_a_little_endian_platform :
    shows (step (little [(1, 0x1122334455667788)] [] [0xd401000010000000]))
      1 [(1, some 0x7788)] [] = true := by decide
theorem test_v69_le16_on_a_big_endian_platform :
    shows (step (big [(1, 0x1122334455667788)] [] [0xd410000000000010]))
      1 [(1, some 0x8877)] [] = true := by decide
theorem test_v75_bswap16_on_a_big_endian_platform :
    shows (step (big [(1, 0x1122334455667788)] [] [0xd710000000000010]))
      1 [(1, some 0x8877)] [] = true := by decide
theorem test_v80_source_example_s4_opcode_0x7e_signed_32 :
    shows (step (start .little 5 [(1, 0xffffffff), (2, 0x12345678fffffffe)] [] [0x7e21030000000000]))
      9 [] [] = true := by decide
theorem test_v81_same_operands_as_64_bit_signed_compare :
    shows (step (start .little 5 [(1, 0xffffffff), (2, 0x12345678fffffffe)] [] [0x7d21030000000000]))
      6 [] [] = true := by decide
theorem test_v83_gotol_backwards :
    shows (step (start .little 5 [] [] [0x06000000faffffff]))
      0 [] [] = true := by decide
theorem test_v87_equal_imm_sign_extended_taken :
    shows (step (little [(1, 0xffffffffffffffff)] [] [0x15010200ffffffff]))
      3 [] [] = true := by decide
theorem test_v90_unsigned_greater_than_imm_1_never_taken :
    shows (step (little [(1, 0xffffffffffffffff)] [] [0x25010200ffffffff]))
      1 [] [] = true := by decide
theorem test_v93_signed_less_than_with_the_same_operands :
    shows (step (little [(1, 0xffffffffffffffff), (2, 1)] [] [0xcd21020000000000]))
      3 [] [] = true := by decide
theorem test_v96_signed_greater_than_32_bit_0x80000000_is :
    shows (step (little [(1, 0x80000000)] [] [0x6601020000000000]))
      1 [] [] = true := by decide
theorem test_v100_bit_test_64_bit_imm_sign_extended :
    shows (step (little [(1, 0x8000000000000000)] [] [0x4501020000000080]))
      3 [] [] = true := by decide
theorem test_v101_bit_test_32_bit_upper_half_ignored :
    shows (step (little [(1, 0xffffffff00000000), (2, 0xffffffffffffffff)] [] [0x4e21020000000000]))
      1 [] [] = true := by decide
theorem test_v102_not_equal_backward_jump :
    shows (step (start .little 6 [(1, 7)] [] [0x5501fdff00000000]))
      4 [] [] = true := by decide
theorem test_v103_compare_with_an_unwritten_register :
    faults (step (little [(1, 7)] [] [0x5d21010000000000]))
      (.unwrittenRegister 2) = true := by decide
theorem test_v105_call_of_a_program_local_function :
    shows (step (start .little 3 [(6, 7), (10, 0x10000)] [] [0x8510000004000000]))
      8 [(6, none), (10, some 0xfe00)] [] = true := by decide
theorem test_v107_outermost_exit_with_r0_unwritten :
    faults (step (little [] [] [0x9500000000000000]))
      (.unwrittenRegister 0) = true := by decide
theorem test_v108_helper_call_helper_1_a1_a2 :
    shows (step { little [(1, 2), (2, 3), (3, 9), (6, 6)] [] [0x8500000001000000] with helperReplies := [⟨[], .returns 5 []⟩] })
      1 [(0, some 5), (1, none), (2, none), (3, none)] [] = true := by decide
theorem test_v109_helper_id_not_in_the_table :
    faults (step (little [(1, 2)] [] [0x8500000063000000]))
      (.unknownHelper 99) = true := by decide
theorem test_v110_btf_call_on_a_platform_without_btf :
    faults (step (little [] [] [0x852000004d000000]))
      (.unknownHelper 77) = true := by decide
theorem test_v115_store_8_bytes_from_a_register_big :
    shows (step (big [(1, 0x1122334455667788), (10, 0x10000)] [] [0x7ba1fff000000000]))
      1 [] (cells 0xfff0 8 0x1122334455667788) = true := by decide
theorem test_v117_store_2_bytes :
    shows (step (little [(1, 0x1122334455667788), (10, 0x10000)] [] [0x6b1af2ff00000000]))
      1 [] (cells 0xfff2 2 0x8877) = true := by decide
theorem test_v119_store_imm_8_bytes_imm_sign_extended :
    shows (step (little [(10, 0x10000)] [] [0x7a0af0fffeffffff]))
      1 [] (cells 0xfff0 8 0xfeffffffffffffff) = true := by decide
theorem test_v126_load_8_bytes_big_endian :
    shows (step (big [(10, 0x10000)] (cells 0xfff0 16 0x88776655443322118001ff7f000080ff) [0x792afff000000000]))
      1 [(2, some 0x8877665544332211)] [] = true := by decide
theorem test_v130_sign_extending_load_1_byte_0x80 :
    shows (step (little [(10, 0x10000)] (cells 0xfff0 16 0x88776655443322118001ff7f000080ff) [0x91a2f8ff00000000]))
      1 [(2, some 0xffffffffffffff80)] [] = true := by decide
theorem test_v133_same_bytes_big_endian_0xff7f :
    shows (step (big [(10, 0x10000)] (cells 0xfff0 16 0x88776655443322118001ff7f000080ff) [0x892afffa00000000]))
      1 [(2, some 0xffffffffffffff7f)] [] = true := by decide
theorem test_v136_load_overwrites_its_own_base_register :
    shows (step (little [(1, 0xfff0)] (cells 0xfff0 16 0x88776655443322118001ff7f000080ff) [0x7911000000000000]))
      1 [(1, some 0x1122334455667788)] [] = true := by decide
theorem test_v137_misaligned_load_default :
    faults (step (little [(10, 0x10000)] (cells 0xfff0 16 0x88776655443322118001ff7f000080ff) [0x61a2f1ff00000000]))
      (.memFault 0x000000000000fff1 4 .read) = true := by decide
theorem test_v140_address_wraps_modulo_2_64_then_not :
    faults (step (little [(1, 0)] (cells 0xfff0 16 0x88776655443322118001ff7f000080ff) [0x7112ffff00000000]))
      (.memFault 0xffffffffffffffff 1 .read) = true := by decide
theorem test_v141_store_with_unwritten_value_register_base_is :
    faults (step (little [(10, 0x10000)] (cells 0xfff0 16 0x88776655443322118001ff7f000080ff) [0x631af0ff00000000]))
      (.unwrittenRegister 1) = true := by decide
theorem test_v142_load_into_register_10 :
    faults (step (little [(1, 0xfff0)] (cells 0xfff0 16 0x88776655443322118001ff7f000080ff) [0x791a000000000000]))
      (.readOnlyRegister) = true := by decide
theorem test_v145_source_example_s7_32_bit_add_wraps :
    shows (step (little [(1, 0xaaaaaaaa00000002), (10, 0x10000)] stackTop [0xc31af0ff00000000]))
      1 [] (cells 0xfff0 8 0x0100000001000000) = true := by decide
theorem test_v148_fetch_and_add_32_bit_old_value :
    shows (step (little [(1, 0xaaaaaaaa00000002), (10, 0x10000)] stackTop [0xc31af0ff01000000]))
      1 [(1, some 0xffffffff)] (cells 0xfff0 8 0x0100000001000000) = true := by decide
theorem test_v150_and_with_fetch_64_bit :
    shows (step (little [(1, 0xff), (10, 0x10000)] stackTop [0xdb1af8ff51000000]))
      1 [(1, some 0xff0)] (cells 0xfff8 8 0xf000000000000000) = true := by decide
theorem test_v153_exchange_32_bit_low_half_stored_old :
    shows (step (little [(1, 0x1122334455667788), (10, 0x10000)] stackTop [0xc31af8ffe1000000]))
      1 [(1, some 0xff0)] (cells 0xfff8 8 0x8877665500000000) = true := by decide
theorem test_v155_compare_and_exchange_64_bit_no_match :
    shows (step (little [(0, 1), (1, 0x1122334455667788), (10, 0x10000)] stackTop [0xdb1af8fff1000000]))
      1 [(0, some 0xff0)] (cells 0xfff8 8 0xf00f000000000000) = true := by decide
theorem test_v156_compare_and_exchange_32_bit_only_low :
    shows (step (little [(0, 0x9999999900000ff0), (1, 0x1122334455667788), (10, 0x10000)] stackTop [0xc31af8fff1000000]))
      1 [(0, some 0xff0)] (cells 0xfff8 8 0x8877665500000000) = true := by decide
theorem test_v157_compare_and_exchange_leaves_the_source_register :
    shows (step (little [(0, 0), (10, 0x10000)] stackTop [0xdbaaf8fff1000000]))
      1 [(0, some 0xff0)] (cells 0xfff8 8 0xf00f000000000000) = true := by decide
theorem test_v158_misaligned_atomic_always_faults :
    faults (step (little [(1, 1), (10, 0x10000)] stackTop [0xc31af2ff00000000]))
      (.memFault 0x000000000000fff2 4 .atomic) = true := by decide
theorem test_v161_fetch_into_register_10 :
    faults (step (little [(1, 0xfff0), (10, 0x10000)] stackTop [0xdba1000001000000]))
      (.readOnlyRegister) = true := by decide
theorem test_v162_compare_and_exchange_with_r0_unwritten_fault :
    faults (step (little [(1, 0x1122334455667788), (10, 0x10000)] stackTop [0xdb1af8fff1000000]))
      (.unwrittenRegister 0) = true := by decide
theorem test_v164_same_big_endian_bpf :
    shows (step (big [] [] [0x1810000055667788, 0x0000000011223344]))
      2 [(1, some 0x1122334455667788)] [] = true := by decide
theorem test_v165_low_half_with_bit_31_set_is :
    shows (step (little [] [] [0x18010000ffffffff, 0x0000000000000000]))
      2 [(1, some 0xffffffff)] [] = true := by decide
theorem test_v167_map_value_by_file_descriptor_plus_next :
    shows (step (little [] [] [0x1821000005000000, 0x0000000010000000]))
      2 [(1, some 0x20010)] [] = true := by decide
theorem test_v171_map_value_by_index_plus_next_imm :
    shows (step (little [] [] [0x1861000000000000, 0x00000000f8ffffff]))
      2 [(1, some 0x10001fff8)] [] = true := by decide
theorem test_v172_file_descriptor_the_platform_does_not_know :
    faults (step (little [] [] [0x1811000006000000, 0x0000000000000000]))
      (.refused (.mapByFd 6)) = true := by decide
theorem test_v178_legacy_absolute_load_is_refused :
    faults (step (little [(6, 0)] [] [0x200000000e000000]))
      (.refused .legacyPacket) = true := by decide

/-! ### For every statement with hypotheses, a state and operands that meet them, at the bounds of its clauses. -/

/-- Registers with the extreme values, and the stack area's last 16 bytes written. -/
def base : State :=
  little [(0, 0xff), (1, 0xffffffffffffffff), (2, 0), (3, 0x8000000000000000), (6, 6), (10, 0x10000)] stackTop
    [0x0701000001000000, 0x8500000001000000, 0x1801000000000000, 0, 0x0000000000000000]

/-- `base` on a platform whose programs may write `x[10]`. -/
def base10 : State := { base with platform := { base.platform with r10Writable := true } }

theorem canWrite_low (s : State) {d : Reg} (h : d.toNat < 10) : CanWrite s d := ⟨by omega, fun h10 => by omega⟩

theorem canWrite_ten : CanWrite base10 10 := ⟨by decide, fun _ => rfl⟩

/-- The hypotheses that the result statements of two-operand instructions share. -/
def Ready (s : State) (d : Reg) (a : Word) (r : Reg) (b : Word) : Prop := CanWrite s d ∧ s.reg d = some a ∧ s.reg r = some b

theorem witness_WrappingArithmetic :
    Ready base 1 0xffffffffffffffff 1 0xffffffffffffffff ∧ Ready base10 10 0x10000 2 0 :=
  ⟨⟨canWrite_low _ (by decide), by decide, by decide⟩, canWrite_ten, by decide, by decide⟩

/-- A zero divisor and another one. -/
theorem witness_UnsignedDivision : Ready base 1 0xffffffffffffffff 2 0 ∧ Ready base 1 0xffffffffffffffff 6 6 :=
  ⟨⟨canWrite_low _ (by decide), by decide, by decide⟩, canWrite_low _ (by decide), by decide, by decide⟩

/-- The most negative value by -1, and a zero divisor. -/
theorem witness_SignedDivision :
    Ready base 3 0x8000000000000000 1 0xffffffffffffffff ∧ Ready base 3 0x8000000000000000 2 0 :=
  ⟨⟨canWrite_low _ (by decide), by decide, by decide⟩, canWrite_low _ (by decide), by decide, by decide⟩

theorem witness_BitwiseOperations : Ready base 3 0x8000000000000000 1 0xffffffffffffffff :=
  ⟨canWrite_low _ (by decide), by decide, by decide⟩

/-- A shift amount far above the width. -/
theorem witness_ShiftAmounts : Ready base 3 0x8000000000000000 1 0xffffffffffffffff :=
  ⟨canWrite_low _ (by decide), by decide, by decide⟩

theorem witness_Negation : CanWrite base 3 ∧ base.reg 3 = some 0x8000000000000000 :=
  ⟨canWrite_low _ (by decide), by decide⟩

/-- The destination of a move may be unwritten, or `x[10]` where the platform allows it. -/
theorem witness_Moves : CanWrite base 4 ∧ base.reg 4 = none ∧ base.reg 1 = some 0xffffffffffffffff ∧ CanWrite base10 10 :=
  ⟨canWrite_low _ (by decide), by decide, by decide, canWrite_ten⟩

theorem witness_SignExtendingMoves : CanWrite base 4 ∧ base.reg 0 = some 0xff :=
  ⟨canWrite_low _ (by decide), by decide⟩

theorem witness_Alu32ZeroesUpperHalf :
    (Instr.add32Imm 1 1).isAlu32 = true ∧ (Instr.add32Imm 1 1).target? = some 1 ∧
      (∃ t, exec (.add32Imm 1 1) base = .next t ∧ t.reg 1 = some 0) ∧ (Instr.be32 1).isAlu32 = true ∧
      (Instr.be64 1).isAlu32 = false ∧ Ready base 1 0xffffffffffffffff 1 0xffffffffffffffff :=
  ⟨by decide, rfl, ⟨_, rfl, by decide⟩, by decide, by decide, canWrite_low _ (by decide), by decide, by decide⟩

/-- Both byte orders. -/
theorem witness_ByteSwaps :
    CanWrite base 3 ∧ base.reg 3 = some 0x8000000000000000 ∧ base.platform.endian = .little ∧
      CanWrite (big [(3, 1)] [] []) 3 ∧ (big [(3, 1)] [] []).reg 3 = some 1 ∧ (big [(3, 1)] [] []).platform.endian = .big :=
  ⟨canWrite_low _ (by decide), by decide, rfl, canWrite_low _ (by decide), by decide, rfl⟩

/-- Operands that are equal and share bits, and operands that are different and share none. -/
theorem witness_EqualityJumps :
    base.reg 1 = some 0xffffffffffffffff ∧ base.reg 2 = some 0 ∧ Ref.jeq 64 0xffffffffffffffff 0 = false ∧
      Ref.jeq 32 0xffffffff (0xffffffff : BitVec 32).toNat = true ∧ Ref.jset 32 0xffffffff 0 = false ∧
      Ref.jset 64 0xffffffffffffffff (Ref.imm64 0x80000000) = true := by decide

/-- Operands for each outcome, the equal ones among them. -/
theorem witness_UnsignedJumps :
    base.reg 1 = some 0xffffffffffffffff ∧ base.reg 2 = some 0 ∧ Ref.jgt 64 0xffffffffffffffff 0 = true ∧
      Ref.jgt 64 0 0 = false ∧ Ref.jge 64 0 0 = true ∧ Ref.jlt 64 0 0 = false ∧ Ref.jle 64 0 0 = true := by decide

/-- The most negative value and -1, both orders, and equal operands. -/
theorem witness_SignedJumps :
    base.reg 1 = some 0xffffffffffffffff ∧ base.reg 3 = some 0x8000000000000000 ∧
      Ref.jsgt 64 0xffffffffffffffff 0x8000000000000000 = true ∧ Ref.jsgt 64 0x8000000000000000 0 = false ∧
      Ref.jsge 64 0 0 = true ∧ Ref.jslt 64 0 0 = false ∧ Ref.jsle 64 0 0 = true := by decide

/-- `base` with a listed answer to the next helper call, which needs `x[3]` too, and the id 1 in both tables. -/
def helped (answer : HelperAnswer) : State :=
  { base with
    helperReplies := [⟨[3], answer⟩]
    platform := { base.platform with helpers := ⟨[⟨1, [1, 2]⟩], false⟩, btfHelpers := ⟨[⟨1, [1, 2]⟩], true⟩ } }

/-- Both tables; a helper that writes the last byte of memory. -/
theorem witness_HelperCalls :
    (helped (.returns 5 [(2 ^ 64 - 1, 7)])).platform.helpers.needs? 1 = some [1, 2] ∧
      (helped (.returns 5 [(2 ^ 64 - 1, 7)])).platform.btfHelpers.needs? 1 = some [1, 2] ∧
      (helped (.returns 5 [(2 ^ 64 - 1, 7)])).helperReply true 1 = ⟨[3], .returns 5 [(2 ^ 64 - 1, 7)]⟩ ∧
      (∀ r ∈ ([1, 2, 3, 4, 5] : List Reg), r ∈ ([1, 2] : List Reg) ∨ r ∈ ([3] : List Reg) →
        ((helped (.returns 5 [(2 ^ 64 - 1, 7)])).reg r).isSome = true) := by decide

/-- At reset every id is defined, its answer is a free one, and every argument register is written, whatever it needs. -/
theorem witness_HelperCalls_reset :
    State.reset.platform.helpers.needs? 0xffffffff = some [] ∧
      State.reset.helperReply false 0xffffffff =
        ⟨Config.helperNeeds (State.reset.helperCall false 0xffffffff),
          .returns (Config.helperResult (State.reset.helperCall false 0xffffffff))
            (Config.helperWrites (State.reset.helperCall false 0xffffffff))⟩ ∧
      (∀ r ∈ ([1, 2, 3, 4, 5] : List Reg), (State.reset.reg r).isSome = true) := ⟨by decide, rfl, by decide⟩

/-- An id of no table; a needed register that is unwritten, the first one of the id and the one the helper decides on; a
helper whose access is not admitted; a helper that declines. -/
theorem witness_HelperFaults :
    (helped .declines).platform.helpers.needs? 2 = none ∧
      (helped .declines).platform.helpers.needs? 1 = some [1, 2] ∧ ((helped .declines).setReg 1 none).reg 1 = none ∧
      ((helped .declines).setReg 3 none).reg 3 = none ∧
      (∀ q ∈ ([1, 2, 3, 4, 5] : List Reg), q.toNat < (3 : Reg).toNat → q ∈ ([1, 2] : List Reg) ∨ q ∈ ([3] : List Reg) →
        (((helped .declines).setReg 3 none).reg q).isSome = true) ∧
      (∀ q ∈ ([1, 2, 3, 4, 5] : List Reg), q ∈ ([1, 2] : List Reg) ∨ q ∈ ([3] : List Reg) →
        ((helped .declines).reg q).isSome = true) ∧
      (helped .declines).helperReply false 1 = ⟨[3], .declines⟩ ∧
      (helped (.memFault 8 4 .read)).helperReply true 1 = ⟨[3], .memFault 8 4 .read⟩ := by decide

/-- A helper that decides to need `x[3]` faults where it is unwritten, and returns where it is written (42_jump.md R228). -/
theorem test_helper_decides_its_needs :
    faults (exec (.callHelper 1) ((helped (.returns 5 [])).setReg 3 none)) (.unwrittenRegister 3) = true ∧
      shows (exec (.callBtf 1) (helped (.returns 5 []))) 1 [(0, some 5), (3, none), (6, some 6)] [] = true := by decide

/-- `base` inside `n` calls. -/
def nested (n : Nat) : State := { base with calls := List.replicate n ⟨3, some 6, none, none, none, some 0x10200⟩ }

/-- One call below the limit and at the limit. -/
theorem witness_CallLocal :
    (nested 7).calls.length < (nested 7).platform.maxCallDepth ∧
      (nested 8).platform.maxCallDepth ≤ (nested 8).calls.length := by decide

theorem witness_ExitReturns :
    (nested 2).calls =
      ⟨3, some 6, none, none, none, some 0x10200⟩ :: [⟨3, some 6, none, none, none, some 0x10200⟩] := rfl

/-- A result and none. -/
theorem witness_ExitEndsTheRun :
    base.calls = [] ∧ base.reg 0 = some 0xff ∧ (base.setReg 0 none).calls = [] ∧
      (base.setReg 0 none).reg 0 = none := by decide

theorem witness_CallThenReturnRestores :
    ∃ s1 t, exec (.callLocal 2) base = .next s1 ∧ exec .exit s1 = .next t := ⟨_, _, rfl, rfl⟩

/-- The last addresses of the region for every width, and of the whole address space. -/
theorem witness_ZeroExtendingLoads :
    CanWrite base 4 ∧ base.reg 10 = some 0x10000 ∧
      base.platform.admits (effectiveAddress 0x10000 0xffff) 1 .read = true ∧
      base.platform.admits (effectiveAddress 0x10000 0xfffe) 2 .read = true ∧
      base.platform.admits (effectiveAddress 0x10000 0xfffc) 4 .read = true ∧
      base.platform.admits (effectiveAddress 0x10000 0xfff8) 8 .read = true ∧
      State.reset.reg 1 = some 0 ∧ State.reset.platform.admits (effectiveAddress 0 0xfff8) 8 .read = true :=
  ⟨canWrite_low _ (by decide), by decide⟩

theorem witness_SignExtendingLoads :
    CanWrite base 4 ∧ base.reg 10 = some 0x10000 ∧
      base.platform.admits (effectiveAddress 0x10000 0xffff) 1 .read = true ∧
      base.platform.admits (effectiveAddress 0x10000 0xfffe) 2 .read = true ∧
      base.platform.admits (effectiveAddress 0x10000 0xfffc) 4 .read = true := ⟨canWrite_low _ (by decide), by decide⟩

theorem witness_Stores :
    base.reg 10 = some 0x10000 ∧ base.reg 1 = some 0xffffffffffffffff ∧
      base.platform.admits (effectiveAddress 0x10000 0xffff) 1 .write = true ∧
      base.platform.admits (effectiveAddress 0x10000 0xfffe) 2 .write = true ∧
      base.platform.admits (effectiveAddress 0x10000 0xfffc) 4 .write = true ∧
      base.platform.admits (effectiveAddress 0x10000 0xfff8) 8 .write = true ∧
      State.reset.platform.admits (effectiveAddress 0 0xfff8) 8 .write = true := by decide

/-- With another agent's turn pending before the step, and draws for the present step, on a shared region; `whole` is the
platform's promise about regular accesses. -/
def watched (whole : Bool) : State :=
  { base with
    others := [⟨[⟨0x40000, [1, 2, 3, 4], false, [0, 3]⟩, ⟨0x40004, [5, 6, 7, 8], true, []⟩], [(0x40007, 0xff)]⟩]
    racing := [(0x40000, 0xaa), (0x40001, 0xbb)]
    platform :=
      { base.platform with
        regions := base.platform.regions ++ [⟨0x40000, 8, [1, 2, 4, 8], [1, 2, 4, 8], [4, 8], true⟩]
        atomicOrder := ⟨0, whole⟩ } }

/-- The last addresses; a draw for none of the bytes, and an access next to a shared region. -/
theorem witness_LoadAfterStore :
    (0xfffffffffffffff8 : Word).toNat + 8 ≤ addressCount ∧
      (∀ i, i < 8 → base.racing.lookup ((0xfffffffffffffff8 : Word).toNat + i) = none) ∧
      (∀ i, i < 8 → ¬ Shared (watched false).platform ((0x40008 : Word).toNat + i)) :=
  ⟨by decide, fun _ _ => rfl, by decide⟩

/-- The last byte and the upper half of a store (20_memory.md R43), at the last addresses; both orders. -/
theorem witness_NarrowReadOfWideStore :
    3 + 1 ≤ 4 ∧ 2 + 2 ≤ 4 ∧ 0 + 8 ≤ 8 ∧ 7 < 8 ∧ (0xfffffffffffffffc : Word).toNat + 4 ≤ addressCount ∧
      (0xfffffffffffffff8 : Word).toNat + 8 ≤ addressCount ∧ base.platform.endian = .little ∧
      (big [] [] []).platform.endian = .big := by decide

/-- The example of 20_memory.md R43. -/
theorem test_mixed_width :
    (base.memWrite 0x8000 4 (0x11223344 : BitVec 32)).memRead 0x8000 1 = (0x44 : BitVec 8) ∧
      (base.memWrite 0x8000 4 (0x11223344 : BitVec 32)).memRead 0x8002 2 = (0x1122 : BitVec 16) ∧
      ((big [] [] []).memWrite 0x8000 4 (0x11223344 : BitVec 32)).memRead 0x8000 1 = (0x11 : BitVec 8) ∧
      ((big [] [] []).memWrite 0x8000 4 (0x11223344 : BitVec 32)).memRead 0x8002 2 = (0x3344 : BitVec 16) := by decide

/-- Both widths, at the last addresses of the region. -/
theorem witness_AtomicReadModifyWrite :
    base.reg 10 = some 0x10000 ∧ Ready base 1 0xffffffffffffffff 1 0xffffffffffffffff ∧
      base.platform.admits (effectiveAddress 0x10000 0xfffc) 4 .atomic = true ∧
      base.platform.admits (effectiveAddress 0x10000 0xfff8) 8 .atomic = true :=
  ⟨by decide, ⟨canWrite_low _ (by decide), by decide, by decide⟩, by decide⟩

theorem witness_AtomicExchange :
    base.reg 10 = some 0x10000 ∧ Ready base 1 0xffffffffffffffff 1 0xffffffffffffffff ∧
      base.platform.admits (effectiveAddress 0x10000 0xfffc) 4 .atomic = true ∧
      base.platform.admits (effectiveAddress 0x10000 0xfff8) 8 .atomic = true :=
  ⟨by decide, ⟨canWrite_low _ (by decide), by decide, by decide⟩, by decide⟩

/-- Both outcomes of the comparison, the equal one with other bits above the width. -/
theorem witness_AtomicCompareExchange :
    base.reg 10 = some 0x10000 ∧ base.reg 1 = some 0xffffffffffffffff ∧ base.reg 0 = some 0xff ∧
      base.platform.admits (effectiveAddress 0x10000 0xfff0) 4 .atomic = true ∧
      base.platform.admits (effectiveAddress 0x10000 0xfff8) 8 .atomic = true ∧
      Ref.loaded base (effectiveAddress 0x10000 0xfff8).toNat 8 ≠ 0xff % 2 ^ 64 ∧
      (base.setReg 0 (some 0x1ffffffff)).reg 0 = some 0x1ffffffff ∧
      Ref.loaded base (effectiveAddress 0x10000 0xfff0).toNat 4 = 0x1ffffffff % 2 ^ 32 := by decide

theorem witness_LoadImmediate64 : CanWrite base 0 ∧ CanWrite base10 10 := ⟨canWrite_low _ (by decide), canWrite_ten⟩

/-- Listed addresses, and at reset a free one. -/
theorem witness_PlatformAddresses :
    CanWrite base 1 ∧ base.platform.mapByFd? 5 = some 0x7000 ∧ base.platform.mapByIdx? 0 = some 0x7000 ∧
      base.platform.varAddr? 3 = some 0x30000 ∧ base.platform.mapVal? 0x7000 = some 0x20000 ∧
      State.reset.platform.mapByFd? 0 = some (Config.mapByFd 0 0) :=
  ⟨canWrite_low _ (by decide), by decide, by decide, by decide, by decide, rfl⟩

/-- `base` with listed code addresses. -/
def coded : State := { base with platform := { base.platform with codeAddrs := some [10, 20, 30, 40, 50] } }

/-- The first and the last slot that begin an instruction, a second slot and a slot past the end; code addresses listed and
free. -/
theorem witness_CodeAddresses :
    CanWrite coded 1 ∧ coded.platform.codeAddr? (coded.pc + 1 + Ref.signed 32 (0xffffffff : BitVec 32).toNat) = some 10 ∧
      coded.platform.codeAddr? (coded.pc + 1 + Ref.signed 32 (3 : BitVec 32).toNat) = some 50 ∧
      coded.platform.beginsAt (coded.pc + 1 + Ref.signed 32 (2 : BitVec 32).toNat) = false ∧
      coded.platform.beginsAt (coded.pc + 1 + Ref.signed 32 (4 : BitVec 32).toNat) = false ∧
      coded.platform.beginsAt (4 : Nat) = true ∧ coded.platform.codeAddrs = some [10, 20, 30, 40, 50] ∧
      base.platform.beginsAt (4 : Nat) = true ∧ base.platform.codeAddrs = none :=
  ⟨canWrite_low _ (by decide), by decide, by decide, by decide, by decide, by decide, rfl, by decide, rfl⟩

/-- A listed key, a missing one in a table that is not total, and each lookup that fails. -/
theorem witness_PlatformLookups :
    base.platform.mapByFd.rows = [] ++ (5, 0x7000) :: [] ∧ base.platform.mapByFd.total = false ∧
      (∀ row ∈ base.platform.mapByFd.rows, row.1 ≠ 6) ∧ CanWrite base 1 ∧ base.platform.mapByFd? 6 = none ∧
      base.platform.mapByIdx? 1 = none ∧ base.platform.varAddr? 4 = none ∧
      ({ base.platform with mapVal := ⟨[], false⟩ }).mapVal? 0x7000 = none ∧
      ({ base.platform with mapVal := ⟨[], false⟩ }).mapByFd? 5 = some 0x7000 ∧
      ({ base.platform with mapVal := ⟨[], false⟩ }).mapByIdx? 0 = some 0x7000 :=
  ⟨rfl, rfl, show ∀ row ∈ ([(5, 0x7000)] : List (BitVec 32 × Word)), row.1 ≠ 6 by simp, canWrite_low _ (by decide),
    by decide, by decide, by decide, by decide, by decide, by decide⟩

theorem witness_ReadOnlyRegisterTen :
    (Instr.mov64Imm 10 0).wf = true ∧ (Instr.mov64Imm 10 0).target? = some 10 ∧ base.platform.r10Writable = false ∧
      (Instr.atomicXchg64 1 10 0).wf = true ∧ (Instr.atomicXchg64 1 10 0).target? = some 10 := by decide

/-- The first and the last register of a list of reads. -/
theorem witness_UnwrittenRegisterReads :
    (Instr.add64Reg 4 1).wf = true ∧ (Instr.add64Reg 4 1).reads = [] ++ 4 :: [1] ∧ base.reg 4 = none ∧
      (∀ d, (Instr.add64Reg 4 1).target? = some d → CanWrite base d) ∧
      (Instr.atomicCmpxchg64 10 1 0).wf = true ∧ (Instr.atomicCmpxchg64 10 1 0).reads = [10, 1] ++ 0 :: [] ∧
      (∀ q ∈ ([10, 1] : List Reg), (base.reg q).isSome = true) ∧ (base.setReg 0 none).reg 0 = none :=
  ⟨by decide, rfl, by decide, fun _ h => by cases h; exact canWrite_low _ (by decide), by decide, rfl, by decide,
    by decide⟩

/-- One byte past the region, and a misaligned access. -/
theorem witness_AccessesNotAdmitted :
    (Instr.atomicAdd64 10 1 0).storesAt? = some (10, 0, 8) ∧
      (∀ q ∈ (Instr.atomicAdd64 10 1 0).reads, (base.reg q).isSome = true) ∧ base.reg 10 = some 0x10000 ∧
      (Instr.atomicAdd64 10 1 0).fields.opcode.extractLsb' 5 3 = 6 ∧
      base.platform.admits (effectiveAddress 0x10000 0) 8 .atomic = false ∧
      (Instr.stb 10 0 1).storesAt? = some (10, 0, 1) ∧ (Instr.stb 10 0 1).fields.opcode.extractLsb' 5 3 ≠ 6 ∧
      base.platform.admits (effectiveAddress 0x10000 0) 1 .write = false ∧
      base.platform.admits (effectiveAddress 0x10000 0xfff9) 4 .read = false := by decide

/-- A register of every clause that an instruction leaves alone. -/
theorem witness_RegisterFrame :
    (∃ t, exec (.add64Imm 1 1) base = .next t ∧ (Instr.add64Imm 1 1).target? ≠ some 2) ∧
      (∃ t, exec (.atomicCmpxchg64 10 1 0xfff8) base = .next t ∧ (Instr.atomicCmpxchg64 10 1 0xfff8).target? ≠ some 1) ∧
      (∃ t, exec (.callHelper 1) (helped (.returns 5 [])) = .next t) ∧ (∃ t, exec (.callLocal 1) base = .next t) ∧
      (∃ t, exec .exit base = .next t ∧ base.calls = []) :=
  ⟨⟨_, rfl, by decide⟩, ⟨_, rfl, by decide⟩, ⟨_, rfl⟩, ⟨_, rfl⟩, _, rfl, rfl⟩

theorem witness_MemoryFrame :
    (∃ t, exec (.mov64Imm 1 1) base = .next t ∧ (Instr.mov64Imm 1 1).storesAt? = none) ∧
      ∃ t, exec (.stdw 10 0xfff8 1) base = .next t ∧ (Instr.stdw 10 0xfff8 1).storesAt? = some (10, 0xfff8, 8) ∧
        base.reg 10 = some 0x10000 :=
  ⟨⟨_, rfl, rfl⟩, _, rfl, rfl, by decide⟩

theorem witness_ControlFrame :
    ∃ t, exec (.lddw 1 1 1) base = .next t ∧ (Instr.lddw 1 1 1).isCall = false ∧
      (Instr.lddw 1 1 1).fields.opcode.extractLsb' 0 3 ≠ 5 ∧ (Instr.lddw 1 1 1).fields.opcode.extractLsb' 0 3 ≠ 6 :=
  ⟨_, rfl, by decide⟩

theorem witness_StepKeepsPlatform : ∃ t, step base = .next t := ⟨_, rfl⟩

theorem witness_DecodeEncode : (Instr.ldMapValueIdx 10 0xffffffff 0xffffffff).wf = true := by decide

theorem witness_EncodeDecode :
    decode .big (encode .big (.atomicCmpxchg64 10 9 0x8000)) = .ok (.atomicCmpxchg64 10 9 0x8000, []) := by decide

/-- No turn, and a turn that writes the first and the last byte of a shared region, with the bytes next to it. -/
theorem witness_StepRunsDecoded :
    base.result = none ∧ base.platform.beginsAt base.pc = true ∧
      (∃ rest, decode base.platform.endian (base.platform.program.drop base.pc.toNat) = .ok (.add64Imm 1 1, rest)) ∧
      base.others = [] ∧ (watched false).others.length = 1 ∧ ¬ Shared (watched false).platform 0x40008 ∧
      ¬ Shared (watched false).platform 0x3ffff ∧ Shared (watched false).platform 0x40000 ∧
      Shared (watched false).platform 0x40007 ∧ 0x40007 < addressCount :=
  ⟨rfl, by decide, ⟨_, rfl⟩, rfl, rfl, by decide, by decide, by decide, by decide, by decide⟩

/-- Another agent's atomic access lands whole, its regular one in part, and the draws of its turn hold (20_memory.md
R47). -/
theorem test_agents_turn :
    (watched false).otherAgents.byteAt 0x40000 = 1 ∧ Memory.get (watched false).otherAgents.mem 0x40001 = none ∧
      (watched false).otherAgents.byteAt 0x40003 = 4 ∧ (watched false).otherAgents.byteAt 0x40007 = 8 ∧
      (watched true).otherAgents.byteAt 0x40001 = 2 ∧
      (watched false).otherAgents.regularRead 0x40004 4 = (0xff070605 : BitVec 32) ∧
      (watched true).otherAgents.regularRead 0x40004 4 = (0x08070605 : BitVec 32) ∧
      (watched false).otherAgents.memRead 0x40004 4 = (0x08070605 : BitVec 32) := by decide

/-- Before the first slot, at a second slot, past the last slot; a reserved encoding. -/
theorem witness_StepFaultsAtFetch :
    ({ base with pc := -1 }).platform.beginsAt (-1) = false ∧ base.platform.beginsAt 3 = false ∧
      base.platform.beginsAt 5 = false ∧ ({ base with pc := 4 }).result = none ∧ base.platform.beginsAt 4 = true ∧
      base.platform.program.drop 4 = idleZero :: [] ∧
      decode base.platform.endian (idleZero :: []) = .error .unknownOpcode := by decide

/-- A wide instruction whose next instruction is the last slot, and a basic one. -/
theorem witness_InstructionStarts :
    base.platform.program ≠ [] ∧ base.platform.beginsAt (2 : Nat) = true ∧
      (base.platform.program[2]?).map Slot.b0 = some 0x18 ∧ 2 + 2 < base.platform.program.length ∧
      base.platform.beginsAt (1 : Nat) = true ∧ (base.platform.program[1]?).map Slot.b0 = some 0x85 ∧
      1 + 1 < base.platform.program.length := by decide

/-- Inside one call, the frame pointer one frame below the caller's. -/
def called : State := { base with calls := [⟨3, some 6, none, none, none, some 0x10200⟩] }

theorem witness_StepKeepsInvariant : Inv called ∧ ∃ t, step called = .next t :=
  ⟨⟨by decide, by decide, fun _ => by decide, fun _ h => by cases h⟩, _, rfl⟩

theorem witness_ResetMeetsInvariant : Memory.wf [(0, 1), (2 ^ 64 - 1, 2)] = true := by decide

theorem witness_MemoryCanonical :
    Memory.wf base.mem = true ∧ (0xffffffffffffffff : Word).toNat + 1 ≤ addressCount := by decide

theorem witness_LegacyRefused :
    ((0x50, .ldindb) : BitVec 8 × (Reg → Reg → BitVec 16 → BitVec 32 → Instr)) ∈
      ([(0x20, .ldabsw), (0x50, .ldindb)] : List (BitVec 8 × (Reg → Reg → BitVec 16 → BitVec 32 → Instr))) := by simp

/-- The first and the last register, and a number that names none. -/
theorem witness_EntryState : (0 : Reg).toNat ≤ 10 ∧ (10 : Reg).toNat ≤ 10 ∧ ¬ (11 : Reg).toNat ≤ 10 := by decide

/-- A draw for no byte; an access next to a shared region; a single-copy atomic access; an access to shared bytes that is
not one, because the platform does not say so or because it is misaligned. -/
theorem witness_RacingReads :
    (∀ i, i < 4 → (watched false).racing.lookup ((0x40004 : Word).toNat + i) = none) ∧
      (∀ i, i < 8 → ¬ Shared (watched false).platform ((0x40008 : Word).toNat + i)) ∧
      SingleCopy (watched true).platform (0x40000 : Word).toNat 8 ∧
      (∀ i, i < 8 → Shared (watched false).platform ((0x40000 : Word).toNat + i)) ∧
      ¬ SingleCopy (watched false).platform (0x40000 : Word).toNat 8 ∧
      ¬ SingleCopy (watched true).platform (0x40001 : Word).toNat 4 :=
  ⟨by decide, by decide, by decide, by decide, by decide, by decide⟩

/-- A turn of one atomic access, and of one regular access on a platform that lets it land whole. -/
theorem witness_AgentWritesLand :
    ({ watched false with others := [⟨[⟨0x40004, [5, 6, 7, 8], true, []⟩], []⟩] }).others =
        ⟨[⟨0x40004, [5, 6, 7, 8], true, []⟩], []⟩ :: [] ∧
      ({ watched true with others := [⟨[⟨0x40000, [1, 2, 3, 4], false, [0]⟩], []⟩] }).others =
        ⟨[⟨0x40000, [1, 2, 3, 4], false, [0]⟩], []⟩ :: [] ∧
      SingleCopy (watched true).platform 0x40000 4 ∧ 0x40004 + 4 ≤ addressCount ∧
      (∀ i, i < 8 → Shared (watched true).platform (0x40000 + i)) :=
  ⟨rfl, rfl, by decide, by decide, by decide⟩

end Sys2Proof.Tests
end

section
/-! PROOFS. The encoding family (30_encoding.md): the value of the 64-bit immediate and of the multi-byte fields of a slot,
both read from one fact, that joining two bit strings shifts the high one past the low one. -/

namespace Sys2Proof.Machine

/-! ### The number that joined bit strings stand for. -/

/-- The high part counts in units of two to the width of the low part. -/
theorem toNat_append_eq_add {v w : Nat} (high : BitVec v) (low : BitVec w) :
    (high ++ low).toNat = high.toNat * 2 ^ w + low.toNat := by
  rw [BitVec.toNat_append, ← Nat.shiftLeft_add_eq_or_of_lt low.isLt, Nat.shiftLeft_eq]

/-- Two joined bytes, the least significant one last. -/
theorem toNat_append_bytes_two (c1 c0 : Byte) : (c1 ++ c0).toNat = c0.toNat + 256 * c1.toNat := by
  rw [toNat_append_eq_add]
  ring

/-- Four joined bytes, the least significant one last. -/
theorem toNat_append_bytes_four (c3 c2 c1 c0 : Byte) :
    (c3 ++ c2 ++ c1 ++ c0).toNat = c0.toNat + 256 * c1.toNat + 256 ^ 2 * c2.toNat + 256 ^ 3 * c3.toNat := by
  simp only [toNat_append_eq_add]
  ring

/-! ### The 64-bit immediate. -/

/-- The immediate of a wide instruction as a number: `next_imm` above `imm`, both unsigned (30_encoding.md R68). -/
theorem imm64_eq_word (nextImm imm : BitVec 32) :
    imm64 nextImm imm = Ref.word (nextImm.toNat * 2 ^ 32 + imm.toNat) := by
  rw [Ref.word, ← toNat_append_eq_add]
  exact ((BitVec.ofNat_toNat 64 (nextImm ++ imm)).trans (BitVec.setWidth_eq _)).symm

theorem exec_lddw (d : Reg) (imm nextImm : BitVec 32) (s : State) :
    exec (.lddw d imm nextImm) s = execLddw d imm nextImm s := rfl

/-- The converse of `execLddw_next`: a writable destination is all that `lddw` needs (45_imm64.md R378). -/
theorem execLddw_ok {d : Reg} {s : State} (hd : CanWrite s d) (imm nextImm : BitVec 32) :
    execLddw d imm nextImm s = .next ((s.setReg d (some (imm64 nextImm imm))).advance 2) := by
  rw [execLddw, withDst_ok hd, writeDst]

/-- Settles O30: the next state is the register write of `execLddw_ok`, whose frame is `writesRegister_setReg` and whose
value is `imm64_eq_word`. -/
theorem loadImmediate64 : Obligations.LoadImmediate64 := by
  intro s d imm nextImm hd
  refine ⟨_, (exec_lddw d imm nextImm s).trans (execLddw_ok hd imm nextImm), ?_⟩
  rw [imm64_eq_word]
  exact writesRegister_setReg s _ 2 hd.1

/-! ### The multi-byte fields. -/

theorem fields_little_off (b : Slot) : (b.fields .little).off = b.b3 ++ b.b2 := rfl

theorem fields_little_imm (b : Slot) : (b.fields .little).imm = b.b7 ++ b.b6 ++ b.b5 ++ b.b4 := rfl

theorem fields_big_off (b : Slot) : (b.fields .big).off = b.b2 ++ b.b3 := rfl

theorem fields_big_imm (b : Slot) : (b.fields .big).imm = b.b4 ++ b.b5 ++ b.b6 ++ b.b7 := rfl

/-- Settles O42: in each byte order each field is a join of bytes, the least significant one last. -/
theorem fieldByteOrder : Obligations.FieldByteOrder := by
  intro b
  refine ⟨?littleOff, ?littleImm, ?bigOff, ?bigImm⟩
  case littleOff => rw [fields_little_off, toNat_append_bytes_two]
  case littleImm => rw [fields_little_imm, toNat_append_bytes_four]
  case bigOff => rw [fields_big_off, toNat_append_bytes_two]
  case bigImm => rw [fields_big_imm, toNat_append_bytes_four]

end Sys2Proof.Machine
end

section
/-! PROOFS. The arithmetic family (40_alu.md). Each operation on bit strings is tied to the arithmetic on numbers of
`Ref` by `Computes`; that a form of operands completes and what it writes is said once per form, for any operation; the
statements apply the two. -/

namespace Sys2Proof.Machine

/-! ### Readings of bit strings as numbers. -/

/-- The signed reading of all bits of a bit string (00_scope.md R7). -/
theorem signed_toNat {w : Nat} (x : BitVec w) : Ref.signed w x.toNat = x.toInt := by
  have hx := x.isLt
  have hhalf : x.toNat < 2 ^ (w - 1) ↔ 2 * x.toNat < 2 ^ w := by
    cases w with
    | zero => rw [Nat.lt_one_iff.mp hx]
    | succ n => rw [Nat.add_sub_cancel, pow_succ]; omega
  have hmod : (x.toNat : Int) % 2 ^ w = x.toNat := by exact_mod_cast Nat.mod_eq_of_lt hx
  simp only [Ref.signed, BitVec.toInt_eq_toNat_cond, hmod, Nat.mod_eq_of_lt hx, hhalf, Nat.cast_pow, Nat.cast_ofNat]

/-- The bit string of the unsigned reading of an integer is that of the integer. -/
theorem ofNat_unsigned (w : Nat) (z : Int) : BitVec.ofNat w (Ref.unsigned w z) = BitVec.ofInt w z := by
  apply BitVec.eq_of_toNat_eq
  have hz : (BitVec.ofInt w z).toNat = Ref.unsigned w z := BitVec.toNat_ofInt z
  rw [BitVec.toNat_ofNat, ← hz, Nat.mod_eq_of_lt (BitVec.isLt _)]

/-- imm as a 64-bit operand (30_encoding.md R74). -/
theorem immWord_toNat (imm : BitVec 32) : (immWord imm).toNat = Ref.imm64 imm := by
  rw [Ref.imm64, signed_toNat, immWord, BitVec.signExtend, BitVec.toNat_ofInt]
  rfl

theorem low32_toNat (a : Word) : (low32 a).toNat = a.toNat % 2 ^ 32 := BitVec.toNat_setWidth 32 a

theorem zext64_ofNat (n : Nat) : zext64 (BitVec.ofNat 32 n) = Ref.word (n % 2 ^ 32) := by
  rw [zext64, ← BitVec.ofNat_toNat, BitVec.toNat_ofNat, Ref.word]

/-- A value of at most 32 bits, zero-extended, has its upper half clear (40_alu.md R101). -/
theorem zext64_lt {w : Nat} (hw : w ≤ 32) (x : BitVec w) : (zext64 x).toNat < 2 ^ 32 :=
  calc (zext64 x).toNat = x.toNat % 2 ^ 64 := BitVec.toNat_setWidth 64 x
    _ ≤ x.toNat := Nat.mod_le _ _
    _ < 2 ^ w := x.isLt
    _ ≤ 2 ^ 32 := Nat.pow_le_pow_right (by decide) hw

/-! ### Operations on bit strings and on plain numbers. -/

/-- The operation on bit strings of `w` bits is the low `w` bits of the operation on their unsigned readings. -/
def Computes {w : Nat} (f : Nat → Nat → Nat → Nat) (op : BitVec w → BitVec w → BitVec w) : Prop :=
  ∀ a b, op a b = BitVec.ofNat w (f w a.toNat b.toNat)

theorem computes_add (w : Nat) : Computes (w := w) Ref.add (fun a b => a + b) := fun a b =>
  BitVec.add_def a b

theorem computes_xor (w : Nat) : Computes (w := w) Ref.xor (fun a b => a ^^^ b) := by
  intro a b
  apply BitVec.eq_of_toNat_eq
  rw [BitVec.toNat_ofNat, BitVec.toNat_xor, Ref.xor, Nat.mod_eq_of_lt (Nat.xor_lt_two_pow a.isLt b.isLt)]

/-- Masking an operand gives it modulo the width (40_alu.md R107). -/
def MasksToWidth {w : Nat} (mask : BitVec w) : Prop := ∀ b : BitVec w, (b &&& mask).toNat = b.toNat % w

theorem mask32_masksToWidth : MasksToWidth mask32 := fun b => by
  rw [BitVec.toNat_and]
  exact Nat.and_two_pow_sub_one_eq_mod b.toNat 5

theorem mask64_masksToWidth : MasksToWidth mask64 := fun b => by
  rw [BitVec.toNat_and]
  exact Nat.and_two_pow_sub_one_eq_mod b.toNat 6

theorem computes_lsh {w : Nat} {mask : BitVec w} (hm : MasksToWidth mask) : Computes Ref.lsh (aluLsh mask) := by
  intro a b
  apply BitVec.eq_of_toNat_eq
  rw [aluLsh, BitVec.shiftLeft_eq', hm, BitVec.toNat_shiftLeft, Nat.shiftLeft_eq, BitVec.toNat_ofNat, Ref.lsh]

theorem computes_rsh {w : Nat} {mask : BitVec w} (hm : MasksToWidth mask) : Computes Ref.rsh (aluRsh mask) := by
  intro a b
  have hlt : a.toNat / 2 ^ (b.toNat % w) < 2 ^ w := (Nat.div_le_self _ _).trans_lt a.isLt
  apply BitVec.eq_of_toNat_eq
  rw [aluRsh, BitVec.ushiftRight_eq', hm, BitVec.toNat_ushiftRight, Nat.shiftRight_eq_div_pow, BitVec.toNat_ofNat,
    Ref.rsh, Nat.mod_eq_of_lt hlt]

/-- The sign bit fills because the shift is a floor division of the signed reading. -/
theorem computes_arsh {w : Nat} {mask : BitVec w} (hm : MasksToWidth mask) : Computes Ref.arsh (aluArsh mask) := by
  intro a b
  have hfloor : Int.fdiv a.toInt (2 ^ (b.toNat % w)) = a.toInt >>> (b.toNat % w) := by
    rw [Int.fdiv_eq_ediv_of_nonneg _ (by positivity), Int.shiftRight_eq_div_pow, Nat.cast_pow, Nat.cast_ofNat]
  rw [Ref.arsh, ofNat_unsigned, signed_toNat, hfloor, aluArsh, BitVec.sshiftRight_eq', hm, BitVec.sshiftRight]

/-! ### What each form of operands writes. -/

section
variable {s : State} {d r : Reg} {a b : Word} {f : Nat → Nat → Nat → Nat}

theorem alu32K_writes {op : BitVec 32 → BitVec 32 → BitVec 32} (hop : Computes f op) (hd : CanWrite s d)
    (ha : s.reg d = some a) (imm : BitVec 32) :
    ∃ t, alu32K op d imm s = .next t ∧
      WritesRegister s t d (Ref.word (f 32 (a.toNat % 2 ^ 32) imm.toNat % 2 ^ 32)) 1 := by
  refine ⟨_, alu32K_ok hd ha imm, ?_⟩
  rw [hop, zext64_ofNat, low32_toNat]
  exact writesRegister_setReg s _ 1 hd.1

theorem alu32X_writes {op : BitVec 32 → BitVec 32 → BitVec 32} (hop : Computes f op) (hd : CanWrite s d)
    (ha : s.reg d = some a) (hb : s.reg r = some b) :
    ∃ t, alu32X op d r s = .next t ∧
      WritesRegister s t d (Ref.word (f 32 (a.toNat % 2 ^ 32) (b.toNat % 2 ^ 32) % 2 ^ 32)) 1 := by
  refine ⟨_, alu32X_ok hd ha hb, ?_⟩
  rw [hop, zext64_ofNat, low32_toNat, low32_toNat]
  exact writesRegister_setReg s _ 1 hd.1

theorem alu64K_writes {op : Word → Word → Word} (hop : Computes f op) (hd : CanWrite s d) (ha : s.reg d = some a)
    (imm : BitVec 32) :
    ∃ t, alu64K op d imm s = .next t ∧ WritesRegister s t d (Ref.word (f 64 a.toNat (Ref.imm64 imm))) 1 := by
  refine ⟨_, alu64K_ok hd ha imm, ?_⟩
  rw [hop, immWord_toNat]
  exact writesRegister_setReg s _ 1 hd.1

theorem alu64X_writes {op : Word → Word → Word} (hop : Computes f op) (hd : CanWrite s d) (ha : s.reg d = some a)
    (hb : s.reg r = some b) :
    ∃ t, alu64X op d r s = .next t ∧ WritesRegister s t d (Ref.word (f 64 a.toNat b.toNat)) 1 := by
  refine ⟨_, alu64X_ok hd ha hb, ?_⟩
  rw [hop]
  exact writesRegister_setReg s _ 1 hd.1

end

/-- The four instructions of a two-operand operation mean `op32` and `op64` on their forms of operands
(40_alu.md R100). -/
structure AluForms (op32 : BitVec 32 → BitVec 32 → BitVec 32) (op64 : Word → Word → Word)
    (k32 : Reg → BitVec 32 → Instr) (x32 : Reg → Reg → Instr) (k64 : Reg → BitVec 32 → Instr)
    (x64 : Reg → Reg → Instr) : Prop where
  imm32 : ∀ d imm s, exec (k32 d imm) s = alu32K op32 d imm s
  reg32 : ∀ d r s, exec (x32 d r) s = alu32X op32 d r s
  imm64 : ∀ d imm s, exec (k64 d imm) s = alu64K op64 d imm s
  reg64 : ∀ d r s, exec (x64 d r) s = alu64X op64 d r s

/-- The claim about a family of four instructions, from what their operation computes at each width. -/
theorem AluForms.claim {f : Nat → Nat → Nat → Nat} {op32 : BitVec 32 → BitVec 32 → BitVec 32}
    {op64 : Word → Word → Word} {k32 : Reg → BitVec 32 → Instr} {x32 : Reg → Reg → Instr}
    {k64 : Reg → BitVec 32 → Instr} {x64 : Reg → Reg → Instr} (forms : AluForms op32 op64 k32 x32 k64 x64)
    (h32 : Computes f op32) (h64 : Computes f op64) : AluClaim f k32 x32 k64 x64 := by
  intro s d a hd ha
  refine ⟨fun imm => ⟨?imm32, ?imm64⟩, fun r b hb => ⟨?reg32, ?reg64⟩⟩
  case imm32 => rw [forms.imm32]; exact alu32K_writes h32 hd ha imm
  case imm64 => rw [forms.imm64]; exact alu64K_writes h64 hd ha imm
  case reg32 => rw [forms.reg32]; exact alu32X_writes h32 hd ha hb
  case reg64 => rw [forms.reg64]; exact alu64X_writes h64 hd ha hb

/-! ### The shifts. -/

theorem lsh_forms : AluForms (aluLsh mask32) (aluLsh mask64) .lsh32Imm .lsh32Reg .lsh64Imm .lsh64Reg :=
  ⟨fun _ _ _ => rfl, fun _ _ _ => rfl, fun _ _ _ => rfl, fun _ _ _ => rfl⟩

theorem rsh_forms : AluForms (aluRsh mask32) (aluRsh mask64) .rsh32Imm .rsh32Reg .rsh64Imm .rsh64Reg :=
  ⟨fun _ _ _ => rfl, fun _ _ _ => rfl, fun _ _ _ => rfl, fun _ _ _ => rfl⟩

theorem arsh_forms : AluForms (aluArsh mask32) (aluArsh mask64) .arsh32Imm .arsh32Reg .arsh64Imm .arsh64Reg :=
  ⟨fun _ _ _ => rfl, fun _ _ _ => rfl, fun _ _ _ => rfl, fun _ _ _ => rfl⟩

/-- Settles O5: the masks take the amount modulo the width (`MasksToWidth`), and each shift by the masked amount is the
product, the quotient or the floor quotient by a power of two that `Ref` names. -/
theorem shiftAmounts : Obligations.ShiftAmounts :=
  ⟨lsh_forms.claim (computes_lsh mask32_masksToWidth) (computes_lsh mask64_masksToWidth),
    rsh_forms.claim (computes_rsh mask32_masksToWidth) (computes_rsh mask64_masksToWidth),
    arsh_forms.claim (computes_arsh mask32_masksToWidth) (computes_arsh mask64_masksToWidth)⟩

/-! ### The upper half of a 32-bit destination. -/

/-- Where the result is a next state, the register holds a value below 2^32 in it (40_alu.md R101). -/
def ZeroesUpperHalf (d : Reg) (result : Result) : Prop :=
  ∀ t, result = .next t → ∃ v, t.reg d = some v ∧ v.toNat < 2 ^ 32

theorem reg_setReg_advance_low {s : State} {d : Reg} (hd : CanWrite s d) {v : Word} (hv : v.toNat < 2 ^ 32) (n : Int) :
    ∃ u, ((s.setReg d (some v)).advance n).reg d = some u ∧ u.toNat < 2 ^ 32 :=
  ⟨v, (State.advance_reg _ n d).trans (State.setReg_reg_same s _ hd.1), hv⟩

theorem alu32K_zeroesUpperHalf (op : BitVec 32 → BitVec 32 → BitVec 32) (d : Reg) (imm : BitVec 32) (s : State) :
    ZeroesUpperHalf d (alu32K op d imm s) := by
  intro t h
  obtain ⟨a, hd, -, rfl⟩ := alu32K_next h
  exact reg_setReg_advance_low hd (zext64_lt le_rfl _) 1

theorem alu32X_zeroesUpperHalf (op : BitVec 32 → BitVec 32 → BitVec 32) (d r : Reg) (s : State) :
    ZeroesUpperHalf d (alu32X op d r s) := by
  intro t h
  obtain ⟨a, b, hd, -, -, rfl⟩ := alu32X_next h
  exact reg_setReg_advance_low hd (zext64_lt le_rfl _) 1

theorem aluUnary_zext64_zeroesUpperHalf {w : Nat} (hw : w ≤ 32) (op : Word → BitVec w) (d : Reg) (s : State) :
    ZeroesUpperHalf d (aluUnary (fun a => zext64 (op a)) d s) := by
  intro t h
  obtain ⟨a, hd, -, rfl⟩ := aluUnary_next h
  exact reg_setReg_advance_low hd (zext64_lt hw _) 1

theorem movValue_zext64_zeroesUpperHalf {w : Nat} (hw : w ≤ 32) (x : BitVec w) (d : Reg) (s : State) :
    ZeroesUpperHalf d (movValue (zext64 x) d s) := by
  intro t h
  obtain ⟨hd, rfl⟩ := movValue_next h
  exact reg_setReg_advance_low hd (zext64_lt hw _) 1

theorem movReg_zext64_zeroesUpperHalf {w : Nat} (hw : w ≤ 32) (op : Word → BitVec w) (d r : Reg) (s : State) :
    ZeroesUpperHalf d (movReg (fun b => zext64 (op b)) d r s) := by
  intro t h
  obtain ⟨b, hd, -, rfl⟩ := movReg_next h
  exact reg_setReg_advance_low hd (zext64_lt hw _) 1

/-- Every instruction of class `BPF_ALU` but the 64-bit byte swaps has one of five forms, each of which zero-extends a
result of at most 32 bits; the opcode byte or the width in imm tells the others apart. -/
theorem exec_zeroesUpperHalf_of_isAlu32 {i : Instr} {d : Reg} (hi : i.isAlu32 = true) (hd : i.target? = some d)
    (s : State) : ZeroesUpperHalf d (exec i s) := by
  cases i with
  | add32Imm | sub32Imm | mul32Imm | div32Imm | sdiv32Imm | or32Imm | and32Imm | lsh32Imm | rsh32Imm | mod32Imm
  | smod32Imm | xor32Imm | arsh32Imm => cases hd; exact alu32K_zeroesUpperHalf _ _ _ s
  | add32Reg | sub32Reg | mul32Reg | div32Reg | sdiv32Reg | or32Reg | and32Reg | lsh32Reg | rsh32Reg | mod32Reg
  | smod32Reg | xor32Reg | arsh32Reg => cases hd; exact alu32X_zeroesUpperHalf _ _ _ s
  | neg32 => cases hd; exact aluUnary_zext64_zeroesUpperHalf le_rfl _ _ s
  | le16 | be16 => cases hd; exact aluUnary_zext64_zeroesUpperHalf (w := 16) (by decide) _ _ s
  | le32 | be32 => cases hd; exact aluUnary_zext64_zeroesUpperHalf (w := 32) le_rfl _ _ s
  | mov32Imm => cases hd; exact movValue_zext64_zeroesUpperHalf le_rfl _ _ s
  | mov32Reg | movsx8To32 | movsx16To32 => cases hd; exact movReg_zext64_zeroesUpperHalf le_rfl _ _ _ s
  | _ => simp [Instr.isAlu32, Instr.fields] at hi

/-- The exclusive or of two 32-bit values fits in 32 bits. -/
theorem xor32_mod (a : Nat) (imm : BitVec 32) :
    Ref.xor 32 (a % 2 ^ 32) imm.toNat % 2 ^ 32 = (a % 2 ^ 32) ^^^ imm.toNat :=
  Nat.mod_eq_of_lt (Nat.xor_lt_two_pow (Nat.mod_lt _ (by decide)) imm.isLt)

/-- Settles O9: the first part by the forms of `exec_zeroesUpperHalf_of_isAlu32`, the two examples by what their forms
of operands write. -/
theorem alu32ZeroesUpperHalf : Obligations.Alu32ZeroesUpperHalf := by
  refine ⟨?invariant, ?add32Reg, ?xor32Imm⟩
  case invariant =>
    intro i s t d v hi hd ht hv
    obtain ⟨u, hu, hlt⟩ := exec_zeroesUpperHalf_of_isAlu32 hi hd s t ht
    rwa [Option.some.inj (hv.symm.trans hu)]
  case add32Reg =>
    intro s d r a b hd ha hb
    obtain ⟨t, ht, hw, -⟩ := alu32X_writes (computes_add 32) hd ha hb
    exact ⟨t, ht, hw⟩
  case xor32Imm =>
    intro s d a imm hd ha
    obtain ⟨t, ht, hw, -⟩ := alu32K_writes (computes_xor 32) hd ha imm
    exact ⟨t, ht, hw.trans (by rw [xor32_mod])⟩

end Sys2Proof.Machine
end

section
/-! PROOFS. The decoder and the encoder (30_encoding.md R60 to R84). One direction is a lemma per format, what it
answers where the fields pass its checks; the other is one predicate on answers, `Faithful`, that every format gives and
from which both the round trip and the reserved opcode bytes are read. -/

namespace Sys2Proof

/-! ### What the encoding of each instruction decodes to. -/

/-- Steps 5 and 6 of 30_encoding.md R84 raise nothing where their checks pass. -/
theorem fieldError?_none {unusedZero : Bool} {regs : List Reg} (hz : unusedZero = true)
    (hr : regs.all Reg.valid = true) : fieldError? unusedZero regs = none := by
  simp only [fieldError?, hz, hr, Bool.not_true, Bool.false_eq_true, if_false, if_true]

/-- A wide instruction that uses `next_imm` (45_imm64.md R373). -/
theorem decodeWide_usesNext {f : Fields} {rows : List (Nat × WideRow)} {mk : Reg → BitVec 32 → BitVec 32 → Instr}
    (hsel : rows.lookup f.src.toNat = some (.usesNext mk)) (hz : (f.off == 0) = true)
    (hr : [f.dst].all Reg.valid = true) (next : BitVec 32) :
    decodeWide f (some ⟨0, 0, 0, 0, next⟩) rows = .ok (mk f.dst f.imm next) := by
  simp only [decodeWide, select, hsel, fieldError?_none hz hr]
  rfl

/-- A wide instruction whose `next_imm` is unused and zero (45_imm64.md R373). -/
theorem decodeWide_unusedNext {f : Fields} {rows : List (Nat × WideRow)} {mk : Reg → BitVec 32 → Instr}
    (hsel : rows.lookup f.src.toNat = some (.unusedNext mk)) (hz : (f.off == 0) = true)
    (hr : [f.dst].all Reg.valid = true) :
    decodeWide f (some ⟨0, 0, 0, 0, 0⟩) rows = .ok (mk f.dst f.imm) := by
  simp only [decodeWide, select, hsel, fieldError?_none hz hr]
  rfl

/-- The fields of a well-formed instruction decode to it, whatever the next slot holds where it has none of its own: the
opcode map and the selector find its row by computation, and what is left are the checks of its format. -/
theorem decodeFields_fields {i : Instr} {second : Option Fields} (h : i.wf = true)
    (hs : ∀ next, i.nextImm? = some next → second = some ⟨0, 0, 0, 0, next⟩) :
    decodeFields i.fields second = .ok i := by
  cases i with
  | lddw | ldMapValueFd | ldMapValueIdx =>
    cases hs _ rfl
    delta Instr.fields decodeFields
    dsimp only
    refine decodeWide_usesNext rfl rfl ?_ _
    exact h
  | ldMapFd | ldVarAddr | ldCodeAddr | ldMapIdx =>
    cases hs _ rfl
    delta Instr.fields decodeFields
    dsimp only
    refine decodeWide_unusedNext rfl rfl ?_
    exact h
  | ldabsw | ldabsh | ldabsb | ldindw | ldindh | ldindb => rfl
  | _ => delta Instr.fields decodeFields; dsimp only; exact accept_ok rfl h _

/-- An instruction takes a second slot exactly where it has a `next_imm`. -/
theorem slots_eq_nextImm? (i : Instr) : i.slots = if i.nextImm?.isSome then 2 else 1 := by
  cases i <;> rfl

/-- Settles O43: an encoding has one slot or two as `nextImm?` says; in either case the fields read from its slots are
the ones it was made of. -/
theorem decodeEncode : Obligations.DecodeEncode := by
  intro e i rest h
  have hslots := slots_eq_nextImm? i
  cases hn : i.nextImm? with
  | none =>
    have hs : ∀ m, i.nextImm? = some m → rest.head?.map (Slot.fields e) = some ⟨0, 0, 0, 0, m⟩ := fun m hm =>
      nomatch hn.symm.trans hm
    simp only [encode, decode, hn, hslots, List.cons_append, List.nil_append, Fields.fields_slot,
      decodeFields_fields h hs]
    rfl
  | some next =>
    have hs : ∀ m, i.nextImm? = some m → some (Fields.mk 0 0 0 0 next) = some ⟨0, 0, 0, 0, m⟩ := fun m hm => by
      rw [Option.some.inj (hn.symm.trans hm)]
    simp only [encode, decode, hn, hslots, List.cons_append, List.nil_append, List.head?_cons, Option.map_some,
      Fields.fields_slot, decodeFields_fields h hs]
    rfl

/-! ### What can decode. -/

/-- The register fields of an instruction, its `next_imm` and the fields of its first slot. -/
def EncodedAs (i : Instr) (regs : List Reg) (next : Option (BitVec 32)) (f : Fields) : Prop :=
  i.regs = regs ∧ i.nextImm? = next ∧ i.fields = f

/-- An answer of the decoder to the fields of a slot with a defined opcode byte: an instruction only where it is
well-formed and these are the fields of its slots, and never the error of a reserved opcode byte. -/
structure Faithful (f : Fields) (second : Option Fields) (answer : Except DecodeError Instr) : Prop where
  sound : ∀ i, answer = .ok i → i.wf = true ∧ i.fields = f ∧
    ∀ next, i.nextImm? = some next → second = some ⟨0, 0, 0, 0, next⟩
  known : answer ≠ .error .unknownOpcode

theorem eq_ofNat_of_toNat_eq {w n : Nat} {x : BitVec w} (h : x.toNat = n) : x = BitVec.ofNat w n := by
  rw [← h, BitVec.ofNat_toNat, BitVec.setWidth_eq]

theorem fieldError?_eq_some {unusedZero : Bool} {regs : List Reg} {x : DecodeError}
    (h : fieldError? unusedZero regs = some x) : x ≠ .unknownOpcode := by
  unfold fieldError? at h
  split at h
  · cases h; decide
  · split at h
    · cases h
    · cases h; decide

theorem fieldError?_eq_none {unusedZero : Bool} {regs : List Reg} (h : fieldError? unusedZero regs = none) :
    unusedZero = true ∧ regs.all Reg.valid = true := by
  unfold fieldError? at h
  cases unusedZero
  · cases h
  · cases hr : regs.all Reg.valid
    · simp [hr] at h
    · exact ⟨rfl, rfl⟩

section
variable {f : Fields} {second : Option Fields} {op : Nat}

/-- A basic instruction, from the fields that its encoding has where the unused ones are zero. -/
theorem accept_faithful {unusedZero : Bool} {regs : List Reg} {i : Instr} {g : Fields} (hi : EncodedAs i regs none g)
    (hg : unusedZero = true → g = f) : Faithful f second (accept unusedZero regs i) := by
  obtain ⟨hregs, hnext, hfields⟩ := hi
  refine ⟨fun j hj => ?_, fun hj => ?_⟩
  · obtain ⟨hz, hr, rfl⟩ := accept_eq_ok.mp hj
    refine ⟨by rw [Instr.wf, hregs, hr], hfields.trans (hg hz), fun next hn => ?_⟩
    rw [hnext] at hn
    cases hn
  · unfold accept at hj
    split at hj
    · exact fieldError?_eq_some ‹_› (Except.error.inj hj)
    · cases hj

theorem select_faithful {α : Type} {sel : Nat} {rows : List (Nat × α)} {k : α → Except DecodeError Instr}
    (h : ∀ row ∈ rows, sel = row.1 → Faithful f second (k row.2)) : Faithful f second (select sel rows k) := by
  unfold select
  split
  · rename_i row hrow
    obtain ⟨before, after, hrows, -⟩ := List.lookup_eq_some_iff.mp hrow
    exact h (sel, row) (by simp [hrows]) rfl
  · exact ⟨fun _ h => (nomatch h), fun h => (nomatch h)⟩

/-- A format whose selector picks a row, from what each row's encoding has in the selector. -/
theorem select_accept_faithful {α : Type} {sel : Nat} {rows : List (Nat × α)} {unusedZero : Bool} {regs : List Reg}
    {mk : α → Instr} {g : Nat → Fields} (hrows : rows.Forall fun row => EncodedAs (mk row.2) regs none (g row.1))
    (hg : unusedZero = true → g sel = f) :
    Faithful f second (select sel rows fun row => accept unusedZero regs (mk row)) :=
  select_faithful fun row hrow hsel =>
    accept_faithful (List.forall_iff_forall_mem.mp hrows row hrow) fun hz => hsel ▸ hg hz

/-- The fields of a slot from what its opcode byte and its other fields are. -/
theorem fields_eq (hop : f.opcode.toNat = op) {dst src : Reg} {off : BitVec 16} {imm : BitVec 32} (hdst : f.dst = dst)
    (hsrc : f.src = src) (hoff : f.off = off) (himm : f.imm = imm) :
    (⟨BitVec.ofNat 8 op, dst, src, off, imm⟩ : Fields) = f := by
  rw [← hdst, ← hsrc, ← hoff, ← himm, ← eq_ofNat_of_toNat_eq hop]

theorem decodeAluK_faithful {rows : List (Nat × (Reg → BitVec 32 → Instr))} (hop : f.opcode.toNat = op)
    (hrows : rows.Forall fun row =>
      EncodedAs (row.2 f.dst f.imm) [f.dst] none ⟨BitVec.ofNat 8 op, f.dst, 0, BitVec.ofNat 16 row.1, f.imm⟩) :
    Faithful f second (decodeAluK f rows) :=
  select_accept_faithful (g := fun sel => ⟨_, _, _, BitVec.ofNat 16 sel, _⟩) hrows fun hz =>
    fields_eq hop rfl (beq_iff_eq.mp hz) (eq_ofNat_of_toNat_eq rfl) rfl

theorem decodeAluX_faithful {rows : List (Nat × (Reg → Reg → Instr))} (hop : f.opcode.toNat = op)
    (hrows : rows.Forall fun row =>
      EncodedAs (row.2 f.dst f.src) [f.dst, f.src] none ⟨BitVec.ofNat 8 op, f.dst, f.src, BitVec.ofNat 16 row.1, 0⟩) :
    Faithful f second (decodeAluX f rows) :=
  select_accept_faithful (g := fun sel => ⟨_, _, _, BitVec.ofNat 16 sel, _⟩) hrows fun hz =>
    fields_eq hop rfl rfl (eq_ofNat_of_toNat_eq rfl) (beq_iff_eq.mp hz)

theorem decodeNeg_faithful {mk : Reg → Instr} (hop : f.opcode.toNat = op)
    (hmk : EncodedAs (mk f.dst) [f.dst] none ⟨BitVec.ofNat 8 op, f.dst, 0, 0, 0⟩) :
    Faithful f second (decodeNeg f mk) :=
  accept_faithful hmk fun hz => by
    simp only [Bool.and_eq_true, beq_iff_eq] at hz
    obtain ⟨⟨hsrc, hoff⟩, himm⟩ := hz
    exact fields_eq hop rfl hsrc hoff himm

theorem decodeEnd_faithful {rows : List (Nat × (Reg → Instr))} (hop : f.opcode.toNat = op)
    (hrows : rows.Forall fun row =>
      EncodedAs (row.2 f.dst) [f.dst] none ⟨BitVec.ofNat 8 op, f.dst, 0, 0, BitVec.ofNat 32 row.1⟩) :
    Faithful f second (decodeEnd f rows) :=
  select_accept_faithful (g := fun sel => ⟨_, _, _, _, BitVec.ofNat 32 sel⟩) hrows fun hz => by
    simp only [Bool.and_eq_true, beq_iff_eq] at hz
    exact fields_eq hop rfl hz.left hz.right (eq_ofNat_of_toNat_eq rfl)

theorem decodeJa16_faithful {mk : BitVec 16 → Instr} (hop : f.opcode.toNat = op)
    (hmk : EncodedAs (mk f.off) [] none ⟨BitVec.ofNat 8 op, 0, 0, f.off, 0⟩) : Faithful f second (decodeJa16 f mk) :=
  accept_faithful hmk fun hz => by
    simp only [Bool.and_eq_true, beq_iff_eq] at hz
    obtain ⟨⟨hdst, hsrc⟩, himm⟩ := hz
    exact fields_eq hop hdst hsrc rfl himm

theorem decodeJa32_faithful {mk : BitVec 32 → Instr} (hop : f.opcode.toNat = op)
    (hmk : EncodedAs (mk f.imm) [] none ⟨BitVec.ofNat 8 op, 0, 0, 0, f.imm⟩) : Faithful f second (decodeJa32 f mk) :=
  accept_faithful hmk fun hz => by
    simp only [Bool.and_eq_true, beq_iff_eq] at hz
    obtain ⟨⟨hdst, hsrc⟩, hoff⟩ := hz
    exact fields_eq hop hdst hsrc hoff rfl

theorem decodeRegOffImm_faithful {mk : Reg → BitVec 16 → BitVec 32 → Instr} (hop : f.opcode.toNat = op)
    (hmk : EncodedAs (mk f.dst f.off f.imm) [f.dst] none ⟨BitVec.ofNat 8 op, f.dst, 0, f.off, f.imm⟩) :
    Faithful f second (decodeRegOffImm f mk) :=
  accept_faithful hmk fun hz => fields_eq hop rfl (beq_iff_eq.mp hz) rfl rfl

theorem decodeRegRegOff_faithful {mk : Reg → Reg → BitVec 16 → Instr} (hop : f.opcode.toNat = op)
    (hmk : EncodedAs (mk f.dst f.src f.off) [f.dst, f.src] none ⟨BitVec.ofNat 8 op, f.dst, f.src, f.off, 0⟩) :
    Faithful f second (decodeRegRegOff f mk) :=
  accept_faithful hmk fun hz => fields_eq hop rfl rfl rfl (beq_iff_eq.mp hz)

theorem decodeCall_faithful {rows : List (Nat × (BitVec 32 → Instr))} (hop : f.opcode.toNat = op)
    (hrows : rows.Forall fun row =>
      EncodedAs (row.2 f.imm) [] none ⟨BitVec.ofNat 8 op, 0, BitVec.ofNat 4 row.1, 0, f.imm⟩) :
    Faithful f second (decodeCall f rows) :=
  select_accept_faithful (g := fun sel => ⟨_, _, BitVec.ofNat 4 sel, _, _⟩) hrows fun hz => by
    simp only [Bool.and_eq_true, beq_iff_eq] at hz
    exact fields_eq hop hz.left (eq_ofNat_of_toNat_eq rfl) hz.right rfl

theorem decodeExit_faithful {i : Instr} (hop : f.opcode.toNat = op)
    (hi : EncodedAs i [] none ⟨BitVec.ofNat 8 op, 0, 0, 0, 0⟩) : Faithful f second (decodeExit f i) :=
  accept_faithful hi fun hz => by
    simp only [Bool.and_eq_true, beq_iff_eq] at hz
    obtain ⟨⟨⟨hdst, hsrc⟩, hoff⟩, himm⟩ := hz
    exact fields_eq hop hdst hsrc hoff himm

theorem decodeAtomic_faithful {rows : List (Nat × (Reg → Reg → BitVec 16 → Instr))} (hop : f.opcode.toNat = op)
    (hrows : rows.Forall fun row => EncodedAs (row.2 f.dst f.src f.off) [f.dst, f.src] none
      ⟨BitVec.ofNat 8 op, f.dst, f.src, f.off, BitVec.ofNat 32 row.1⟩) : Faithful f second (decodeAtomic f rows) :=
  select_accept_faithful (g := fun sel => ⟨_, _, _, _, BitVec.ofNat 32 sel⟩) hrows fun _ =>
    fields_eq hop rfl rfl rfl (eq_ofNat_of_toNat_eq rfl)

/-- A legacy instruction, which no check refuses (46_legacy_packet.md R391). -/
theorem legacy_faithful {i : Instr} (hop : f.opcode.toNat = op)
    (hi : EncodedAs i [] none ⟨BitVec.ofNat 8 op, f.dst, f.src, f.off, f.imm⟩) : Faithful f second (.ok i) :=
  accept_faithful (unusedZero := true) hi fun _ => fields_eq hop rfl rfl rfl rfl

/-- A second slot that passes step 7 of 30_encoding.md R84 is the one its instruction encodes. -/
theorem acceptSecond_faithful {mustBeZero : Bool} {mk : BitVec 32 → Instr} (hr : [f.dst].all Reg.valid = true)
    (hmk : ∀ next, (mustBeZero = true → next = 0) → EncodedAs (mk next) [f.dst] (some next) f) :
    Faithful f second (acceptSecond second mustBeZero mk) := by
  refine ⟨fun i hi => ?_, fun h => ?_⟩
  · obtain ⟨next, hsecond, hzero, rfl⟩ := acceptSecond_ok hi
    obtain ⟨hregs, hnext, hfields⟩ := hmk next hzero
    refine ⟨by rw [Instr.wf, hregs, hr], hfields, fun m hm => ?_⟩
    rw [hsecond, Option.some.inj (hnext.symm.trans hm)]
  · unfold acceptSecond at h
    split at h
    · cases h
    · split at h <;> cases h

/-- A row of format `LDDW` encodes, with the register and imm of `f`, as `f` and a second slot. -/
def WideRow.EncodedAs (row : WideRow) (f : Fields) : Prop :=
  match row with
  | .usesNext mk => ∀ next, Sys2Proof.EncodedAs (mk f.dst f.imm next) [f.dst] (some next) f
  | .unusedNext mk => Sys2Proof.EncodedAs (mk f.dst f.imm) [f.dst] (some 0) f

theorem decodeWide_faithful {rows : List (Nat × WideRow)} (hop : f.opcode.toNat = op)
    (hrows : rows.Forall fun row => row.2.EncodedAs ⟨BitVec.ofNat 8 op, f.dst, BitVec.ofNat 4 row.1, 0, f.imm⟩) :
    Faithful f second (decodeWide f second rows) := by
  refine select_faithful fun row hrow hsel => ?_
  have henc := List.forall_iff_forall_mem.mp hrows row hrow
  split
  · exact ⟨fun _ h => (nomatch h), fun h => fieldError?_eq_some ‹_› (Except.error.inj h)⟩
  · obtain ⟨hz, hr⟩ := fieldError?_eq_none ‹_›
    rw [fields_eq hop rfl (eq_ofNat_of_toNat_eq hsel) (beq_iff_eq.mp hz) rfl] at henc
    obtain ⟨sel, mk | mk⟩ := row
    · exact acceptSecond_faithful hr fun next _ => henc next
    · exact acceptSecond_faithful hr fun next hzero => by rw [hzero rfl]; exact henc

end

theorem mem_definedOpcodes {f : Fields} {op : Nat} (hop : f.opcode.toNat = op)
    (h : BitVec.ofNat 8 op ∈ definedOpcodes) : f.opcode ∈ definedOpcodes := by
  rwa [eq_ofNat_of_toNat_eq hop]

/-- The opcode map from both sides: a defined opcode byte is faithful to the encoding, and every other byte is the error
of a reserved one. The cases are the arms of `decodeFields` in its order, by format. -/
theorem decodeFields_cases (f : Fields) (second : Option Fields) :
    (f.opcode ∈ definedOpcodes ∧ Faithful f second (decodeFields f second)) ∨
      (f.opcode ∉ definedOpcodes ∧ decodeFields f second = .error .unknownOpcode) := by
  unfold decodeFields
  split
  case h_1 _ hop | h_4 _ hop | h_7 _ hop | h_10 _ hop | h_17 _ hop | h_20 _ hop | h_36 _ hop | h_39 _ hop
    | h_46 _ hop | h_49 _ hop | h_57 _ hop | h_60 _ hop | h_71 _ hop | h_74 _ hop | h_93 _ hop | h_96 _ hop
    | h_101 _ hop | h_104 _ hop | h_110 _ hop | h_113 _ hop =>
    exact .inl ⟨mem_definedOpcodes hop (by decide),
      decodeAluK_faithful hop ⟨rfl, rfl, rfl⟩⟩
  case h_2 _ hop =>
    exact .inl ⟨mem_definedOpcodes hop (by decide),
      decodeJa16_faithful hop ⟨rfl, rfl, rfl⟩⟩
  case h_3 _ hop =>
    exact .inl ⟨mem_definedOpcodes hop (by decide),
      decodeJa32_faithful hop ⟨rfl, rfl, rfl⟩⟩
  case h_5 _ hop | h_6 _ hop | h_12 _ hop | h_15 _ hop | h_22 _ hop | h_25 _ hop | h_41 _ hop | h_44 _ hop
    | h_50 _ hop | h_53 _ hop | h_64 _ hop | h_67 _ hop | h_78 _ hop | h_81 _ hop | h_97 _ hop | h_100 _ hop
    | h_114 _ hop | h_117 _ hop =>
    exact .inl ⟨mem_definedOpcodes hop (by decide),
      decodeAluX_faithful hop ⟨rfl, rfl, rfl⟩⟩
  case h_8 _ hop | h_9 _ hop | h_18 _ hop | h_19 _ hop | h_28 _ hop | h_29 _ hop | h_37 _ hop | h_38 _ hop
    | h_47 _ hop | h_48 _ hop | h_55 _ hop | h_58 _ hop | h_59 _ hop | h_62 _ hop | h_69 _ hop | h_72 _ hop
    | h_73 _ hop | h_76 _ hop | h_94 _ hop | h_95 _ hop | h_102 _ hop | h_103 _ hop | h_111 _ hop | h_112 _ hop
    | h_119 _ hop | h_120 _ hop =>
    exact .inl ⟨mem_definedOpcodes hop (by decide),
      decodeRegOffImm_faithful hop ⟨rfl, rfl, rfl⟩⟩
  case h_11 _ hop =>
    exact .inl ⟨mem_definedOpcodes hop (by decide),
      decodeWide_faithful hop ⟨fun _ => ⟨rfl, rfl, rfl⟩, ⟨rfl, rfl, rfl⟩, fun _ => ⟨rfl, rfl, rfl⟩,
        ⟨rfl, rfl, rfl⟩, ⟨rfl, rfl, rfl⟩, ⟨rfl, rfl, rfl⟩, fun _ => ⟨rfl, rfl, rfl⟩⟩⟩
  case h_13 _ hop | h_14 _ hop | h_23 _ hop | h_24 _ hop | h_32 _ hop | h_33 _ hop | h_42 _ hop | h_43 _ hop
    | h_51 _ hop | h_52 _ hop | h_54 _ hop | h_56 _ hop | h_61 _ hop | h_63 _ hop | h_65 _ hop | h_66 _ hop
    | h_68 _ hop | h_70 _ hop | h_75 _ hop | h_77 _ hop | h_79 _ hop | h_80 _ hop | h_82 _ hop | h_86 _ hop
    | h_87 _ hop | h_98 _ hop | h_99 _ hop | h_106 _ hop | h_107 _ hop | h_115 _ hop | h_116 _ hop | h_124 _ hop
    | h_125 _ hop =>
    exact .inl ⟨mem_definedOpcodes hop (by decide),
      decodeRegRegOff_faithful hop ⟨rfl, rfl, rfl⟩⟩
  case h_16 _ hop | h_21 _ hop | h_26 _ hop | h_35 _ hop | h_40 _ hop | h_45 _ hop =>
    exact .inl ⟨mem_definedOpcodes hop (by decide),
      legacy_faithful hop ⟨rfl, rfl, rfl⟩⟩
  case h_27 _ hop | h_30 _ hop | h_88 _ hop | h_90 _ hop =>
    exact .inl ⟨mem_definedOpcodes hop (by decide),
      decodeAluK_faithful hop ⟨⟨rfl, rfl, rfl⟩, ⟨rfl, rfl, rfl⟩⟩⟩
  case h_31 _ hop | h_34 _ hop | h_91 _ hop | h_92 _ hop =>
    exact .inl ⟨mem_definedOpcodes hop (by decide),
      decodeAluX_faithful hop ⟨⟨rfl, rfl, rfl⟩, ⟨rfl, rfl, rfl⟩⟩⟩
  case h_83 _ hop | h_85 _ hop =>
    exact .inl ⟨mem_definedOpcodes hop (by decide),
      decodeNeg_faithful hop ⟨rfl, rfl, rfl⟩⟩
  case h_84 _ hop =>
    exact .inl ⟨mem_definedOpcodes hop (by decide),
      decodeCall_faithful hop ⟨⟨rfl, rfl, rfl⟩, ⟨rfl, rfl, rfl⟩, ⟨rfl, rfl, rfl⟩⟩⟩
  case h_89 _ hop =>
    exact .inl ⟨mem_definedOpcodes hop (by decide),
      decodeExit_faithful hop ⟨rfl, rfl, rfl⟩⟩
  case h_105 _ hop =>
    exact .inl ⟨mem_definedOpcodes hop (by decide),
      decodeAluX_faithful hop ⟨⟨rfl, rfl, rfl⟩, ⟨rfl, rfl, rfl⟩, ⟨rfl, rfl, rfl⟩⟩⟩
  case h_108 _ hop =>
    exact .inl ⟨mem_definedOpcodes hop (by decide),
      decodeAluX_faithful hop ⟨⟨rfl, rfl, rfl⟩, ⟨rfl, rfl, rfl⟩, ⟨rfl, rfl, rfl⟩, ⟨rfl, rfl, rfl⟩⟩⟩
  case h_109 _ hop | h_122 _ hop =>
    exact .inl ⟨mem_definedOpcodes hop (by decide),
      decodeAtomic_faithful hop ⟨⟨rfl, rfl, rfl⟩, ⟨rfl, rfl, rfl⟩, ⟨rfl, rfl, rfl⟩, ⟨rfl, rfl, rfl⟩, ⟨rfl, rfl, rfl⟩,
        ⟨rfl, rfl, rfl⟩, ⟨rfl, rfl, rfl⟩, ⟨rfl, rfl, rfl⟩, ⟨rfl, rfl, rfl⟩, ⟨rfl, rfl, rfl⟩⟩⟩
  case h_118 _ hop | h_121 _ hop | h_123 _ hop =>
    exact .inl ⟨mem_definedOpcodes hop (by decide),
      decodeEnd_faithful hop ⟨⟨rfl, rfl, rfl⟩, ⟨rfl, rfl, rfl⟩, ⟨rfl, rfl, rfl⟩⟩⟩
  case h_126 =>
    refine .inr ⟨fun hmem => ?_, rfl⟩
    simp only [definedOpcodes, List.cons_append, List.nil_append, List.mem_cons, List.not_mem_nil, or_false,
      ← BitVec.toNat_inj, BitVec.reduceToNat] at hmem
    grind

/-! ### The encoder inverts the decoder. -/

/-- The slots that decode to an instruction are those of its encoding. -/
theorem encode_eq_of_fields {e : Endian} {i : Instr} {s : Slot} {rest : List Slot} (hf : i.fields = s.fields e)
    (hs : ∀ next, i.nextImm? = some next → rest.head?.map (Slot.fields e) = some ⟨0, 0, 0, 0, next⟩) :
    s :: rest = encode e i ++ rest.drop (i.slots - 1) := by
  have hslots := slots_eq_nextImm? i
  cases hn : i.nextImm? with
  | none => simp [encode, hn, hslots, hf]
  | some next =>
    obtain ⟨s2, hhead, hs2⟩ := Option.map_eq_some_iff.mp (hs next hn)
    obtain ⟨later, rfl⟩ := List.head?_eq_some_iff.mp hhead
    simp only [encode, hn, hslots, hf, ← hs2, Slot.slot_fields]
    rfl

/-- Settles O44: an answer is faithful (`decodeFields_cases`), and a slot is the slot of its fields. -/
theorem encodeDecode : Obligations.EncodeDecode := by
  intro e slots rest i h
  cases slots with
  | nil => cases h
  | cons s later =>
    simp only [decode] at h
    split at h
    · cases h
    · rename_i j hj
      obtain ⟨rfl, rfl⟩ := Prod.mk.inj (Except.ok.inj h)
      rcases decodeFields_cases (s.fields e) (later.head?.map (Slot.fields e)) with ⟨-, hf⟩ | ⟨-, hunknown⟩
      · obtain ⟨hwf, hfields, hs⟩ := hf.sound j hj
        exact ⟨hwf, encode_eq_of_fields hfields hs⟩
      · cases hunknown.symm.trans hj

/-! ### The reserved opcode bytes. -/

/-- Settles O45: the two sides of `decodeFields_cases`, and a count of the list. -/
theorem reservedOpcodeBytes : Obligations.ReservedOpcodeBytes := by
  refine ⟨fun f second => ?_, by decide +kernel, rfl⟩
  rcases decodeFields_cases f second with ⟨hmem, hf⟩ | ⟨hmem, hunknown⟩
  · exact iff_of_false hf.known (not_not.mpr hmem)
  · exact iff_of_true hunknown hmem

end Sys2Proof
end

section
/-! PROOFS. What every instruction does, said once from two sides: the checks that come first (`Checks`, for the claims
about faults) and the next state where it answers one (`Effect`, for the frames and the invariant of a run). -/

namespace Sys2Proof.Machine

/-! ### The checks that come first (60_exceptions.md R411). -/

/-- The answer reads these registers first, in this order. -/
inductive ReadsFirst (s : State) : List Reg → Result → Prop
  | done (answer : Result) : ReadsFirst s [] answer
  | read {r : Reg} {rs : List Reg} {k : Word → Result} (h : ∀ v, ReadsFirst s rs (k v)) :
      ReadsFirst s (r :: rs) (withReg s r k)

/-- The answer checks the target register, if there is one, and then reads these registers. -/
inductive Checks (s : State) : Option Reg → List Reg → Result → Prop
  | reads {rs : List Reg} {answer : Result} (h : ReadsFirst s rs answer) : Checks s none rs answer
  | target {d : Reg} {rs : List Reg} {answer : Result} (h : ReadsFirst s rs answer) :
      Checks s (some d) rs (withDst s d answer)

/-- Every instruction checks its target and then reads its registers in the order of `Instr.reads`. -/
theorem exec_checks (i : Instr) (s : State) : Checks s i.target? i.reads (exec i s) := by
  cases i with
  | add32Imm | add64Imm | sub32Imm | sub64Imm | mul32Imm | mul64Imm | div32Imm | div64Imm | sdiv32Imm | sdiv64Imm
  | or32Imm | or64Imm | and32Imm | and64Imm | lsh32Imm | lsh64Imm | rsh32Imm | rsh64Imm | neg32 | neg64 | mod32Imm
  | mod64Imm | smod32Imm | smod64Imm | xor32Imm | xor64Imm | mov32Reg | mov64Reg | movsx8To32 | movsx16To32
  | movsx8To64 | movsx16To64 | movsx32To64 | arsh32Imm | arsh64Imm | le16 | le32 | le64 | be16 | be32 | be64
  | bswap16 | bswap32 | bswap64 | ldxb | ldxh | ldxw | ldxdw | ldxsb | ldxsh | ldxsw =>
    exact .target (.read fun _ => .done _)
  | add32Reg | add64Reg | sub32Reg | sub64Reg | mul32Reg | mul64Reg | div32Reg | div64Reg | sdiv32Reg | sdiv64Reg
  | or32Reg | or64Reg | and32Reg | and64Reg | lsh32Reg | lsh64Reg | rsh32Reg | rsh64Reg | mod32Reg | mod64Reg
  | smod32Reg | smod64Reg | xor32Reg | xor64Reg | arsh32Reg | arsh64Reg | atomicFetchAdd32 | atomicFetchOr32
  | atomicFetchAnd32 | atomicFetchXor32 | atomicXchg32 | atomicFetchAdd64 | atomicFetchOr64 | atomicFetchAnd64
  | atomicFetchXor64 | atomicXchg64 => exact .target (.read fun _ => .read fun _ => .done _)
  | mov32Imm | mov64Imm | lddw | ldMapFd | ldMapValueFd | ldVarAddr | ldCodeAddr | ldMapIdx | ldMapValueIdx =>
    exact .target (.done _)
  | jeqImm | jeq32Imm | jgtImm | jgt32Imm | jgeImm | jge32Imm | jsetImm | jset32Imm | jneImm | jne32Imm | jsgtImm
  | jsgt32Imm | jsgeImm | jsge32Imm | jltImm | jlt32Imm | jleImm | jle32Imm | jsltImm | jslt32Imm | jsleImm
  | jsle32Imm | stb | sth | stw | stdw => exact .reads (.read fun _ => .done _)
  | jeqReg | jeq32Reg | jgtReg | jgt32Reg | jgeReg | jge32Reg | jsetReg | jset32Reg | jneReg | jne32Reg | jsgtReg
  | jsgt32Reg | jsgeReg | jsge32Reg | jltReg | jlt32Reg | jleReg | jle32Reg | jsltReg | jslt32Reg | jsleReg
  | jsle32Reg | stxb | stxh | stxw | stxdw | atomicAdd32 | atomicOr32 | atomicAnd32 | atomicXor32 | atomicAdd64
  | atomicOr64 | atomicAnd64 | atomicXor64 => exact .reads (.read fun _ => .read fun _ => .done _)
  | atomicCmpxchg32 | atomicCmpxchg64 => exact .reads (.read fun _ => .read fun _ => .read fun _ => .done _)
  | _ => exact .reads (.done _)

/-- Settles O35: the check of the target comes before everything else. -/
theorem readOnlyRegisterTen : Obligations.ReadOnlyRegisterTen := by
  intro i s _ htarget hw
  have hchecks := exec_checks i s
  rw [htarget] at hchecks
  generalize exec i s = answer at hchecks
  cases hchecks
  exact withDst_readOnly rfl hw _

/-- The first unwritten register of those that are read faults. -/
theorem ReadsFirst.unwritten {s : State} {rs before after : List Reg} {r : Reg} {answer : Result}
    (h : ReadsFirst s rs answer) (hrs : rs = before ++ r :: after) (hbefore : ∀ q ∈ before, (s.reg q).isSome = true)
    (hr : s.reg r = none) (hvalid : r.toNat ≤ 10) : answer = .fault (.unwrittenRegister r) := by
  induction h generalizing before with
  | done => simp at hrs
  | read _ ih =>
    cases before with
    | nil =>
      obtain ⟨rfl, -⟩ := List.cons.inj hrs
      exact withReg_unwritten hr hvalid _
    | cons q before =>
      obtain ⟨hq, htail⟩ := List.cons.inj hrs
      subst hq
      obtain ⟨v, hv⟩ := Option.isSome_iff_exists.mp (hbefore _ List.mem_cons_self)
      rw [withReg_some hv]
      exact ih v htail fun p hp => hbefore p (List.mem_cons_of_mem _ hp)

theorem Checks.readsFirst {s : State} {target : Option Reg} {rs : List Reg} {answer : Result}
    (h : Checks s target rs answer) (hd : ∀ d, target = some d → CanWrite s d) : ReadsFirst s rs answer := by
  cases h with
  | reads h => exact h
  | target h => rwa [withDst_ok (hd _ rfl)]

/-- An instruction reads its register operands, and compare-and-exchange `x[0]` beside them. -/
theorem mem_regs_of_mem_reads {i : Instr} {r : Reg} (h : r ∈ i.reads) : r ∈ i.regs ∨ r = 0 := by
  cases i with
  | atomicCmpxchg32 | atomicCmpxchg64 => simpa [Instr.reads, Instr.regs, or_assoc] using h
  | mov32Reg | mov64Reg | movsx8To32 | movsx16To32 | movsx8To64 | movsx16To64 | movsx32To64 | ldxb | ldxh | ldxw
  | ldxdw | ldxsb | ldxsh | ldxsw => exact .inl (List.mem_cons_of_mem _ h)
  | mov32Imm | mov64Imm | lddw | ldMapFd | ldMapValueFd | ldVarAddr | ldCodeAddr | ldMapIdx | ldMapValueIdx => cases h
  | _ => exact .inl h

theorem reads_valid {i : Instr} {r : Reg} (hwf : i.wf = true) (h : r ∈ i.reads) : r.toNat ≤ 10 := by
  rcases mem_regs_of_mem_reads h with hr | rfl
  · exact of_decide_eq_true (List.all_eq_true.mp hwf r hr)
  · decide

/-- Settles O36: with a writable target the reads come first, and the first unwritten one of them stops. -/
theorem unwrittenRegisterReads : Obligations.UnwrittenRegisterReads := by
  intro i s before after r hwf hd hreads hbefore hr
  exact ((exec_checks i s).readsFirst hd).unwritten hreads hbefore hr (reads_valid hwf (by simp [hreads]))

/-! ### Accesses that are not admitted (60_exceptions.md R404). -/

section
variable {s : State} {n : Nat} {d r : Reg} {off : BitVec 16} {base : Word}

theorem storeReg_notAdmitted (hbase : s.reg d = some base) (hr : (s.reg r).isSome = true)
    (h : s.platform.admits (effectiveAddress base off) n .write = false) :
    storeReg n d r off s = .fault (.memFault (effectiveAddress base off) n .write) := by
  obtain ⟨v, hv⟩ := Option.isSome_iff_exists.mp hr
  rw [storeReg, withReg_some hbase, withReg_some hv, storeAt, withAdmitted_fault h]

theorem storeImm_notAdmitted (hbase : s.reg d = some base) (imm : BitVec 32)
    (h : s.platform.admits (effectiveAddress base off) n .write = false) :
    storeImm n d off imm s = .fault (.memFault (effectiveAddress base off) n .write) := by
  rw [storeImm, withReg_some hbase, storeAt, withAdmitted_fault h]

theorem loadWith_notAdmitted (ext : BitVec (8 * n) → Word) (hd : CanWrite s d) (hbase : s.reg r = some base)
    (h : s.platform.admits (effectiveAddress base off) n .read = false) :
    loadWith n ext d r off s = .fault (.memFault (effectiveAddress base off) n .read) := by
  rw [loadWith, withDst_ok hd, withReg_some hbase, withAdmitted_fault h]

theorem atomicNoFetch_notAdmitted (f : BitVec (8 * n) → BitVec (8 * n) → BitVec (8 * n)) (hbase : s.reg d = some base)
    (hr : (s.reg r).isSome = true) (h : s.platform.admits (effectiveAddress base off) n .atomic = false) :
    atomicNoFetch n f d r off s = .fault (.memFault (effectiveAddress base off) n .atomic) := by
  obtain ⟨v, hv⟩ := Option.isSome_iff_exists.mp hr
  rw [atomicNoFetch, withReg_some hbase, withReg_some hv, withAdmitted_fault h]

theorem atomicFetch_notAdmitted (f : BitVec (8 * n) → BitVec (8 * n) → BitVec (8 * n)) (hd : CanWrite s r)
    (hbase : s.reg d = some base) (hr : (s.reg r).isSome = true)
    (h : s.platform.admits (effectiveAddress base off) n .atomic = false) :
    atomicFetch n f d r off s = .fault (.memFault (effectiveAddress base off) n .atomic) := by
  obtain ⟨v, hv⟩ := Option.isSome_iff_exists.mp hr
  rw [atomicFetch, withDst_ok hd, withReg_some hbase, withReg_some hv, withAdmitted_fault h]

theorem atomicCompareExchange_notAdmitted (hbase : s.reg d = some base) (hr : (s.reg r).isSome = true)
    (h0 : (s.reg 0).isSome = true) (h : s.platform.admits (effectiveAddress base off) n .atomic = false) :
    atomicCompareExchange n d r off s = .fault (.memFault (effectiveAddress base off) n .atomic) := by
  obtain ⟨v, hv⟩ := Option.isSome_iff_exists.mp hr
  obtain ⟨expected, he⟩ := Option.isSome_iff_exists.mp h0
  rw [atomicCompareExchange, withReg_some hbase, withReg_some hv, withReg_some he, withAdmitted_fault h]

/-- The kind of access of an instruction that stores: mode `BPF_ATOMIC` is 6 (30_encoding.md R71). -/
theorem exec_notAdmitted {i : Instr} (hi : i.storesAt? = some (d, off, n))
    (hd : ∀ q, i.target? = some q → CanWrite s q) (hreads : ∀ q ∈ i.reads, (s.reg q).isSome = true)
    (hbase : s.reg d = some base) :
    (i.fields.opcode.extractLsb' 5 3 = 6 → s.platform.admits (effectiveAddress base off) n .atomic = false →
      exec i s = .fault (.memFault (effectiveAddress base off) n .atomic)) ∧
    (i.fields.opcode.extractLsb' 5 3 ≠ 6 → s.platform.admits (effectiveAddress base off) n .write = false →
      exec i s = .fault (.memFault (effectiveAddress base off) n .write)) := by
  have hmem : ∀ {q q' : Reg} {qs : List Reg}, q ∈ q' :: q :: qs := by simp
  cases i with
  | stxb | stxh | stxw | stxdw =>
    cases hi
    exact ⟨fun hm => absurd hm (by simp [Instr.fields]), fun _ h => storeReg_notAdmitted hbase (hreads _ hmem) h⟩
  | stb | sth | stw | stdw =>
    cases hi
    exact ⟨fun hm => absurd hm (by simp [Instr.fields]), fun _ h => storeImm_notAdmitted hbase _ h⟩
  | atomicAdd32 | atomicOr32 | atomicAnd32 | atomicXor32 | atomicAdd64 | atomicOr64 | atomicAnd64 | atomicXor64 =>
    cases hi
    exact ⟨fun _ h => atomicNoFetch_notAdmitted _ hbase (hreads _ hmem) h, fun hm => absurd (by simp [Instr.fields]) hm⟩
  | atomicXchg32 =>
    cases hi
    have hr := hd _ rfl
    exact ⟨fun _ h => atomicFetch_notAdmitted (n := 4) (fun _ v => v) hr hbase (hreads _ hmem) h,
      fun hm => absurd (by simp [Instr.fields]) hm⟩
  | atomicFetchAdd32 | atomicFetchOr32 | atomicFetchAnd32 | atomicFetchXor32 | atomicFetchAdd64 | atomicFetchOr64
  | atomicFetchAnd64 | atomicFetchXor64 | atomicXchg64 =>
    cases hi
    have hr := hd _ rfl
    exact ⟨fun _ h => atomicFetch_notAdmitted _ hr hbase (hreads _ hmem) h,
      fun hm => absurd (by simp [Instr.fields]) hm⟩
  | atomicCmpxchg32 | atomicCmpxchg64 =>
    cases hi
    exact ⟨fun _ h => atomicCompareExchange_notAdmitted hbase (hreads _ hmem)
      (hreads 0 (List.mem_cons_of_mem _ hmem)) h, fun hm => absurd (by simp [Instr.fields]) hm⟩
  | _ => cases hi

end

/-- Settles O37: `exec_notAdmitted` for what stores, and one form for the seven loads. -/
theorem accessesNotAdmitted : Obligations.AccessesNotAdmitted := by
  refine ⟨fun i s d off n base hi hd hreads hbase => exec_notAdmitted hi hd hreads hbase,
    fun s d r off base n mk hmk hd hbase h => ?_⟩
  simp only [List.mem_cons, List.not_mem_nil, or_false, Prod.mk.injEq] at hmk
  rcases hmk with ⟨rfl, rfl⟩ | ⟨rfl, rfl⟩ | ⟨rfl, rfl⟩ | ⟨rfl, rfl⟩ | ⟨rfl, rfl⟩ | ⟨rfl, rfl⟩ | ⟨rfl, rfl⟩ <;>
    exact loadWith_notAdmitted _ hd hbase h

/-! ### The next state of every instruction. -/

/-- Everything that an instruction which answers a next state can have done (40_alu.md R109; 42_jump.md R223 to R229;
43_load_store.md R304; 44_atomic.md R332 to R335; 45_imm64.md R375). -/
inductive Effect (i : Instr) (s : State) : State → Prop
  /-- It wrote its target register. -/
  | writes {d : Reg} (v : Word) (hd : CanWrite s d) (htarget : i.target? = some d) (hstores : i.storesAt? = none) :
      Effect i s ((s.setReg d (some v)).advance i.slots)
  /-- It jumped: class `BPF_JMP` or `BPF_JMP32`. -/
  | jumps (target : Int) (hstores : i.storesAt? = none)
      (hclass : i.fields.opcode.extractLsb' 0 3 = 5 ∨ i.fields.opcode.extractLsb' 0 3 = 6) : Effect i s (s.goTo target)
  /-- It stored and wrote no register. -/
  | stores {d : Reg} {off : BitVec 16} {n : Nat} {base : Word} (v : BitVec (8 * n))
      (hstores : i.storesAt? = some (d, off, n)) (hbase : s.reg d = some base)
      (hend : (effectiveAddress base off).toNat + n ≤ addressCount) (hslots : i.slots = 1) :
      Effect i s ((s.memWrite (effectiveAddress base off) n v).advance 1)
  /-- It stored and wrote its target register. -/
  | fetches {d r : Reg} {off : BitVec 16} {n : Nat} {base : Word} (v : BitVec (8 * n)) (old : Word)
      (hr : CanWrite s r) (htarget : i.target? = some r) (hstores : i.storesAt? = some (d, off, n))
      (hbase : s.reg d = some base) (hend : (effectiveAddress base off).toNat + n ≤ addressCount)
      (hslots : i.slots = 1) :
      Effect i s (((s.memWrite (effectiveAddress base off) n v).setReg r (some old)).advance 1)
  /-- It was a compare and exchange: it stored or did not, and wrote `x[0]`. -/
  | exchanges {d : Reg} {off : BitVec 16} {n : Nat} {base : Word} (c : Prop) [Decidable c] (v : BitVec (8 * n))
      (old : Word) (hi : ∃ d q off, i = .atomicCmpxchg32 d q off ∨ i = .atomicCmpxchg64 d q off)
      (hstores : i.storesAt? = some (d, off, n)) (hbase : s.reg d = some base)
      (hend : (effectiveAddress base off).toNat + n ≤ addressCount) (hslots : i.slots = 1) :
      Effect i s (((if c then s.memWrite (effectiveAddress base off) n v else s).setReg 0 (some old)).advance 1)
  /-- It called a helper, which returned. -/
  | helps {id : BitVec 32} (result : Word) (writes : List Host.Cell) (hi : i = .callHelper id ∨ i = .callBtf id) :
      Effect i s (s.helperReturns result writes)
  /-- It called a program-local function. -/
  | enters {imm : BitVec 32} (target : Int) (hi : i = .callLocal imm)
      (hdepth : s.calls.length < s.platform.maxCallDepth) : Effect i s (s.enterFunction target)
  /-- It was the outermost `exit`. -/
  | halts {v : Word} (hi : i = .exit) (hcalls : s.calls = []) (hv : s.reg 0 = some v) : Effect i s (s.halt v)
  /-- It was an `exit` with a call outstanding. -/
  | leaves {c : CallRecord} {rest : List CallRecord} (hi : i = .exit) (hcalls : s.calls = c :: rest) :
      Effect i s (s.leaveFunction c rest)

/-- The shared operation of each instruction is inverted by its own lemma, and its next state is one of `Effect`. -/
theorem exec_effect {i : Instr} {s t : State} (h : exec i s = .next t) : Effect i s t := by
  cases i with
  | add32Imm | sub32Imm | mul32Imm | div32Imm | sdiv32Imm | or32Imm | and32Imm | lsh32Imm | rsh32Imm | mod32Imm
  | smod32Imm | xor32Imm | arsh32Imm =>
    obtain ⟨a, hd, -, rfl⟩ := alu32K_next h
    exact .writes _ hd rfl rfl
  | add32Reg | sub32Reg | mul32Reg | div32Reg | sdiv32Reg | or32Reg | and32Reg | lsh32Reg | rsh32Reg | mod32Reg
  | smod32Reg | xor32Reg | arsh32Reg =>
    obtain ⟨a, b, hd, -, -, rfl⟩ := alu32X_next h
    exact .writes _ hd rfl rfl
  | add64Imm | sub64Imm | mul64Imm | div64Imm | sdiv64Imm | or64Imm | and64Imm | lsh64Imm | rsh64Imm | mod64Imm
  | smod64Imm | xor64Imm | arsh64Imm =>
    obtain ⟨a, hd, -, rfl⟩ := alu64K_next h
    exact .writes _ hd rfl rfl
  | add64Reg | sub64Reg | mul64Reg | div64Reg | sdiv64Reg | or64Reg | and64Reg | lsh64Reg | rsh64Reg | mod64Reg
  | smod64Reg | xor64Reg | arsh64Reg =>
    obtain ⟨a, b, hd, -, -, rfl⟩ := alu64X_next h
    exact .writes _ hd rfl rfl
  | neg32 | neg64 | le16 | le32 | le64 | be16 | be32 | be64 | bswap16 | bswap32 | bswap64 =>
    obtain ⟨a, hd, -, rfl⟩ := aluUnary_next h
    exact .writes _ hd rfl rfl
  | mov32Imm | mov64Imm =>
    obtain ⟨hd, rfl⟩ := movValue_next h
    exact .writes _ hd rfl rfl
  | mov32Reg | mov64Reg | movsx8To32 | movsx16To32 | movsx8To64 | movsx16To64 | movsx32To64 =>
    obtain ⟨b, hd, -, rfl⟩ := movReg_next h
    exact .writes _ hd rfl rfl
  | ja => cases h; exact .jumps _ rfl (.inl (by simp [Instr.fields]))
  | ja32 => cases h; exact .jumps _ rfl (.inr (by simp [Instr.fields]))
  | jeqImm | jgtImm | jgeImm | jsetImm | jneImm | jsgtImm | jsgeImm | jltImm | jleImm | jsltImm | jsleImm =>
    obtain ⟨a, -, rfl⟩ := jcc64K_next h
    exact .jumps _ rfl (.inl (by simp [Instr.fields]))
  | jeqReg | jgtReg | jgeReg | jsetReg | jneReg | jsgtReg | jsgeReg | jltReg | jleReg | jsltReg | jsleReg =>
    obtain ⟨a, b, -, -, rfl⟩ := jcc64X_next h
    exact .jumps _ rfl (.inl (by simp [Instr.fields]))
  | jeq32Imm | jgt32Imm | jge32Imm | jset32Imm | jne32Imm | jsgt32Imm | jsge32Imm | jlt32Imm | jle32Imm | jslt32Imm
  | jsle32Imm =>
    obtain ⟨a, -, rfl⟩ := jcc32K_next h
    exact .jumps _ rfl (.inr (by simp [Instr.fields]))
  | jeq32Reg | jgt32Reg | jge32Reg | jset32Reg | jne32Reg | jsgt32Reg | jsge32Reg | jlt32Reg | jle32Reg | jslt32Reg
  | jsle32Reg =>
    obtain ⟨a, b, -, -, rfl⟩ := jcc32X_next h
    exact .jumps _ rfl (.inr (by simp [Instr.fields]))
  | callHelper =>
    obtain ⟨_, _, result, writes, -, -, -, rfl⟩ := callHelper_next h
    exact .helps result writes (.inl rfl)
  | callBtf =>
    obtain ⟨_, _, result, writes, -, -, -, rfl⟩ := callHelper_next h
    exact .helps result writes (.inr rfl)
  | callLocal =>
    obtain ⟨hdepth, rfl⟩ := execCallLocal_next h
    exact .enters _ rfl hdepth
  | exit =>
    rcases execExit_next h with ⟨v, hcalls, hv, rfl⟩ | ⟨c, rest, hcalls, rfl⟩
    · exact .halts rfl hcalls hv
    · exact .leaves rfl hcalls
  | stxb | stxh | stxw | stxdw =>
    obtain ⟨base, v, hbase, -, hadmits, rfl⟩ := storeReg_next h
    exact .stores _ rfl hbase (Platform.admits_bound hadmits) rfl
  | stb | sth | stw | stdw =>
    obtain ⟨base, hbase, hadmits, rfl⟩ := storeImm_next h
    exact .stores _ rfl hbase (Platform.admits_bound hadmits) rfl
  | ldxb | ldxh | ldxw | ldxdw | ldxsb | ldxsh | ldxsw =>
    obtain ⟨base, hd, -, -, rfl⟩ := loadWith_next h
    exact .writes _ hd rfl rfl
  | atomicAdd32 | atomicOr32 | atomicAnd32 | atomicXor32 | atomicAdd64 | atomicOr64 | atomicAnd64 | atomicXor64 =>
    obtain ⟨base, v, hbase, -, hadmits, rfl⟩ := atomicNoFetch_next h
    exact .stores _ rfl hbase (Platform.admits_bound hadmits) rfl
  | atomicXchg32 =>
    obtain ⟨base, v, hr, hbase, -, hadmits, rfl⟩ := atomicFetch_next (n := 4) (f := fun _ v => v) h
    exact .fetches _ _ hr rfl rfl hbase (Platform.admits_bound hadmits) rfl
  | atomicFetchAdd32 | atomicFetchOr32 | atomicFetchAnd32 | atomicFetchXor32 | atomicFetchAdd64 | atomicFetchOr64
  | atomicFetchAnd64 | atomicFetchXor64 | atomicXchg64 =>
    obtain ⟨base, v, hr, hbase, -, hadmits, rfl⟩ := atomicFetch_next h
    exact .fetches _ _ hr rfl rfl hbase (Platform.admits_bound hadmits) rfl
  | atomicCmpxchg32 =>
    obtain ⟨base, v, expected, hbase, -, -, hadmits, rfl⟩ := atomicCompareExchange_next h
    exact .exchanges _ _ _ ⟨_, _, _, .inl rfl⟩ rfl hbase (Platform.admits_bound hadmits) rfl
  | atomicCmpxchg64 =>
    obtain ⟨base, v, expected, hbase, -, -, hadmits, rfl⟩ := atomicCompareExchange_next h
    exact .exchanges _ _ _ ⟨_, _, _, .inr rfl⟩ rfl hbase (Platform.admits_bound hadmits) rfl
  | lddw =>
    obtain ⟨hd, rfl⟩ := execLddw_next h
    exact .writes _ hd rfl rfl
  | ldMapFd | ldVarAddr | ldCodeAddr | ldMapIdx =>
    obtain ⟨v, hd, -, rfl⟩ := loadLookup_next h
    exact .writes _ hd rfl rfl
  | ldMapValueFd | ldMapValueIdx =>
    obtain ⟨m, v, hd, -, -, rfl⟩ := loadMapValue_next h
    exact .writes _ hd rfl rfl
  | ldabsw | ldabsh | ldabsb | ldindw | ldindh | ldindb => cases h

/-! ### What each step leaves unchanged. -/

/-- Settles O41: the other agents' turn and every effect keep the platform. -/
theorem stepKeepsPlatform : Obligations.StepKeepsPlatform := by
  intro s t h
  obtain ⟨-, i, -, h⟩ := step_next h
  rw [← State.otherAgents_platform s]
  cases exec_effect h with
  | exchanges c => by_cases hc : c <;> simp [hc]
  | _ => simp

/-- Settles O40: an effect that is no call changes the hidden parts nowhere, and all but the jumps go on by the slots of
the instruction. -/
theorem controlFrame : Obligations.ControlFrame := by
  intro i s t h hcall
  cases exec_effect h with
  | writes => exact ⟨⟨rfl, rfl, rfl, rfl, rfl, rfl, rfl⟩, fun _ _ => rfl⟩
  | jumps _ _ hclass => exact ⟨⟨rfl, rfl, rfl, rfl, rfl, rfl, rfl⟩, fun h5 h6 => absurd hclass (not_or.mpr ⟨h5, h6⟩)⟩
  | stores _ _ _ _ hslots | fetches _ _ _ _ _ _ _ hslots =>
    exact ⟨⟨rfl, rfl, rfl, rfl, rfl, rfl, rfl⟩, fun _ _ => by rw [hslots]; rfl⟩
  | exchanges c _ _ _ _ _ _ hslots =>
    by_cases hc : c <;> simp only [hc, if_true, if_false, hslots] <;>
      exact ⟨⟨rfl, rfl, rfl, rfl, rfl, rfl, rfl⟩, fun _ _ => rfl⟩
  | helps _ _ hi => rcases hi with rfl | rfl <;> cases hcall
  | enters _ hi | halts hi | leaves hi => subst hi; cases hcall

/-- A byte reads alike where memory lists the same bytes. -/
theorem State.byteAt_congr {s t : State} (hmem : t.mem = s.mem) (hplatform : t.platform = s.platform) (a : Nat) :
    t.byteAt a = s.byteAt a := by
  simp only [State.byteAt, hmem, hplatform]

/-- Settles O39: an effect that stores nothing lists the same bytes, and one that stores writes inside its `n` bytes
only. -/
theorem memoryFrame : Obligations.MemoryFrame := by
  intro i s t h hhelper
  refine ⟨fun hnone a => ?none, fun d off n base hsome hbase a ha => ?some⟩
  case none =>
    cases exec_effect h with
    | writes | jumps | enters | halts | leaves => exact State.byteAt_congr (by simp) (by simp) a
    | stores _ hstores | fetches _ _ _ _ hstores | exchanges _ _ _ _ hstores => cases hnone.symm.trans hstores
    | helps _ _ hi => exact absurd ⟨_, hi⟩ hhelper
  case some =>
    cases exec_effect h with
    | writes _ _ _ hstores | jumps _ hstores => cases hsome.symm.trans hstores
    | stores v hstores hbase' | fetches v _ _ _ hstores hbase' =>
      cases hsome.symm.trans hstores
      cases hbase.symm.trans hbase'
      exact State.byteAt_memWrite_outside s _ _ v ha
    | exchanges c v _ _ hstores hbase' =>
      cases hsome.symm.trans hstores
      cases hbase.symm.trans hbase'
      by_cases hc : c <;> simp only [hc, if_true, if_false]
      · exact State.byteAt_memWrite_outside s _ _ v ha
      · rfl
    | helps _ _ hi => exact absurd ⟨_, hi⟩ hhelper
    | enters _ hi | halts hi | leaves hi => subst hi; cases hsome

/-- Settles O38: the registers an effect writes are those of its kind, by the register lemma of each update. -/
theorem registerFrame : Obligations.RegisterFrame := by
  intro i s t r h htarget hexchange hhelper hlocal hexit
  cases exec_effect h with
  | writes v hd htarget' | fetches _ v hd htarget' =>
    have hr : r ≠ _ := fun hr => htarget (htarget'.trans (congrArg some hr.symm))
    exact State.setReg_reg_ne _ _ hr
  | jumps | stores | halts => rfl
  | exchanges c _ _ hi =>
    have hr : r ≠ 0 := fun hr => hexchange hr hi
    rw [State.advance_reg, State.setReg_reg_ne _ _ hr]
    by_cases hc : c <;> simp [hc]
  | helps _ _ hi =>
    have hr : ¬ r.toNat ≤ 5 := fun hr => hhelper hr ⟨_, hi⟩
    have hargs : r ∉ ([1, 2, 3, 4, 5] : List Reg) := fun hm =>
      hr ((by decide : ∀ q ∈ ([1, 2, 3, 4, 5] : List Reg), q.toNat ≤ 5) r hm)
    have h0 : r ≠ 0 := fun h0 => hr (by simp [h0])
    rw [State.helperReturns_reg, if_neg hargs, if_neg h0]
  | enters _ hi =>
    have hr : ¬ 6 ≤ r.toNat := fun hr => hlocal hr ⟨_, hi⟩
    have hcallee : r ∉ ([6, 7, 8, 9] : List Reg) := fun hm =>
      hr ((by decide : ∀ q ∈ ([6, 7, 8, 9] : List Reg), 6 ≤ q.toNat) r hm)
    have h10 : r ≠ 10 := fun h10 => hr (by simp [h10])
    rw [State.enterFunction_reg, if_neg h10, if_neg hcallee]
  | leaves hi hcalls =>
    have hr : ¬ 1 ≤ r.toNat := fun hr => by cases hcalls.symm.trans (hexit hr hi)
    have h0 : r = 0 := BitVec.eq_of_toNat_eq (by change r.toNat = 0; omega)
    rw [h0, State.leaveFunction_reg]
    rfl

/-! ### The invariant of a run. -/

/-- A step that keeps the form of memory, the call stack, the platform and, where the program may not write it, `x[10]`
keeps the invariant of a run that has not ended. -/
theorem Inv.of_sameFrames {s t : State} (hs : Inv s) (hmem : Memory.wf t.mem = true) (hcalls : t.calls = s.calls)
    (hplatform : t.platform = s.platform) (hresult : t.result = none)
    (hfp : s.platform.r10Writable = false → t.reg 10 = s.reg 10) : Inv t := by
  obtain ⟨-, hdepth, hframes, -⟩ := hs
  refine ⟨hmem, by rwa [hcalls, hplatform], fun hw => ?_, fun v hv => ?_⟩
  · rw [hplatform] at hw ⊢
    rw [hcalls, hfp hw]
    exact hframes hw
  · cases hresult.symm.trans hv

/-- Where the program may not write `x[10]`, a register it may write is another one. -/
theorem CanWrite.ten_ne {s : State} {d : Reg} (hd : CanWrite s d) (hw : s.platform.r10Writable = false) : 10 ≠ d := by
  rintro rfl
  cases hw.symm.trans (hd.2 rfl)

/-- Every effect keeps the invariant: only calls and returns touch the call stack, and they keep the frames linked. -/
theorem Effect.inv {i : Instr} {s t : State} (h : Effect i s t) (hs : Inv s) (hrun : s.result = none) : Inv t := by
  have ⟨hwf, hdepth, hframes, _⟩ := hs
  cases h with
  | writes v hd =>
    exact hs.of_sameFrames hwf rfl rfl hrun fun hw => State.setReg_reg_ne s _ (hd.ten_ne hw)
  | jumps => exact hs.of_sameFrames hwf rfl rfl hrun fun _ => rfl
  | stores v _ _ hend => exact hs.of_sameFrames (State.memWrite_wf _ _ v hwf hend) rfl rfl hrun fun _ => rfl
  | fetches v _ hr _ _ _ hend =>
    exact hs.of_sameFrames (State.memWrite_wf _ _ v hwf hend) rfl rfl hrun fun hw =>
      State.setReg_reg_ne _ _ (hr.ten_ne hw)
  | exchanges c v _ _ _ _ hend =>
    by_cases hc : c <;> simp only [hc, if_true, if_false]
    · exact hs.of_sameFrames (State.memWrite_wf _ _ v hwf hend) rfl rfl hrun fun _ =>
        State.setReg_reg_ne _ _ (by decide)
    · exact hs.of_sameFrames hwf rfl rfl hrun fun _ => State.setReg_reg_ne _ _ (by decide)
  | helps result writes =>
    refine hs.of_sameFrames ?_ (by simp) (by simp) (by simpa using hrun) fun _ => ?_
    · rw [State.helperReturns_mem]
      exact Memory.wf_apply writes hwf
    · rw [State.helperReturns_reg]
      rfl
  | enters target _ hlt =>
    refine ⟨by simpa using hwf, by simpa using hlt, fun hw => ?_, fun v hv => ?_⟩
    · rw [State.enterFunction_platform] at hw ⊢
      rw [State.enterFunction_reg, State.enterFunction_calls]
      simp only [framesLinked, State.callRecord, if_true, beq_self_eq_true, Bool.true_and]
      exact hframes hw
    · rw [State.enterFunction_result, hrun] at hv
      cases hv
  | halts _ hcalls hv => exact ⟨hwf, hdepth, hframes, fun w hw => ⟨hv.trans hw, hcalls⟩⟩
  | leaves _ hcalls =>
    rw [hcalls] at hdepth hframes
    refine ⟨by simpa using hwf, ?_, fun hw => ?_, fun v hv => ?_⟩
    · rw [State.leaveFunction_calls, State.leaveFunction_platform]
      exact (Nat.le_succ _).trans hdepth
    · rw [State.leaveFunction_platform] at hw ⊢
      rw [State.leaveFunction_reg, State.leaveFunction_calls]
      exact ((Bool.and_eq_true _ _).mp (hframes hw)).right
    · rw [State.leaveFunction_result, hrun] at hv
      cases hv

/-- What the other agents do before a step keeps the invariant of a run that has not ended. -/
theorem Inv.otherAgents {s : State} (hs : Inv s) (hrun : s.result = none) : Inv s.otherAgents :=
  hs.of_sameFrames (State.otherAgents_wf hs.1) (by simp) (by simp) (by simpa using hrun) fun _ => by simp

/-- Settles O50: a step is the other agents' turn and then an effect. -/
theorem stepKeepsInvariant : Obligations.StepKeepsInvariant := by
  intro s t hs h
  obtain ⟨hrun, i, -, h⟩ := step_next h
  exact (exec_effect h).inv (hs.otherAgents hrun) (by simpa using hrun)

/-- Settles O51: at entry no call is outstanding and the run has not ended, so only the form of memory is left. -/
theorem resetMeetsInvariant : Obligations.ResetMeetsInvariant := by
  have hentry : ∀ (p : Platform) (m : List Host.Cell), Memory.wf m = true → Inv (State.entry p m) := fun p m hm =>
    ⟨hm, Nat.zero_le _, fun _ => rfl, fun _ h => nomatch h⟩
  exact ⟨hentry Platform.atReset [] rfl, hentry⟩

/-- Settles O54: each operation is one of the frozen laws of memory. -/
theorem memoryCanonical : Obligations.MemoryCanonical := fun _ hwf =>
  ⟨fun addr n v hend => State.memWrite_wf addr n v hwf hend, fun writes => Memory.wf_apply writes hwf,
    State.otherAgents_wf hwf⟩

end Sys2Proof.Machine
end

section
/-! PROOFS. The arithmetic, moves and byte swaps (40_alu.md, 41_byteswap.md), in the shape of the shifts: what each
operation computes on plain numbers (`Computes`), and the claim about its forms of operands from that. -/

namespace Sys2Proof.Machine

/-! ### Two-operand arithmetic. -/

theorem eq_ofNat_toNat {w : Nat} (a : BitVec w) : a = BitVec.ofNat w a.toNat := by
  rw [BitVec.ofNat_toNat, BitVec.setWidth_eq]

/-- The difference wraps into the range of the width. -/
theorem toNat_sub_eq_sub {w : Nat} (a b : BitVec w) : (a - b).toNat = Ref.sub w a.toNat b.toNat := by
  have hcast : ((2 ^ w - b.toNat + a.toNat : Nat) : Int) = (a.toNat - b.toNat : Int) + 2 ^ w := by
    rw [Nat.cast_add, Nat.cast_sub b.isLt.le, Nat.cast_pow, Nat.cast_ofNat]
    ring
  have hmod : (a.toNat - b.toNat : Int) % 2 ^ w = ((2 ^ w - b.toNat + a.toNat) % 2 ^ w : Nat) := by
    rw [Int.natCast_mod, hcast, Nat.cast_pow, Nat.cast_ofNat, Int.add_emod_right]
  rw [Ref.sub, Ref.unsigned, hmod, Int.toNat_natCast, BitVec.toNat_sub]

theorem computes_sub (w : Nat) : Computes (w := w) Ref.sub (fun a b => a - b) := fun a b => by
  rw [← toNat_sub_eq_sub]
  exact eq_ofNat_toNat _

theorem computes_mul (w : Nat) : Computes (w := w) Ref.mul (fun a b => a * b) := by
  intro a b
  apply BitVec.eq_of_toNat_eq
  rw [BitVec.toNat_mul, BitVec.toNat_ofNat, Ref.mul]

theorem computes_or (w : Nat) : Computes (w := w) Ref.or (fun a b => a ||| b) := by
  intro a b
  apply BitVec.eq_of_toNat_eq
  rw [BitVec.toNat_ofNat, BitVec.toNat_or, Ref.or, Nat.mod_eq_of_lt (Nat.or_lt_two_pow a.isLt b.isLt)]

theorem computes_and (w : Nat) : Computes (w := w) Ref.and (fun a b => a &&& b) := by
  intro a b
  apply BitVec.eq_of_toNat_eq
  rw [BitVec.toNat_ofNat, BitVec.toNat_and, Ref.and, Nat.mod_eq_of_lt (Nat.and_lt_two_pow a.toNat b.isLt)]

theorem toNat_ne_zero {w : Nat} {b : BitVec w} (hb : b ≠ 0) : b.toNat ≠ 0 := fun h =>
  hb (BitVec.eq_of_toNat_eq (by rw [h]; exact BitVec.toNat_zero.symm))

/-- A zero divisor gives 0 (40_alu.md R103). -/
theorem computes_div (w : Nat) : Computes (w := w) Ref.div aluDiv := by
  intro a b
  by_cases hb : b = 0
  · simp [aluDiv, Ref.div, hb]
  · rw [aluDiv, if_neg hb, Ref.div, if_pos (toNat_ne_zero hb), ← BitVec.toNat_udiv]
    exact eq_ofNat_toNat _

/-- A zero divisor gives the dividend (40_alu.md R103). -/
theorem computes_mod (w : Nat) : Computes (w := w) Ref.mod aluMod := by
  intro a b
  by_cases hb : b = 0
  · simp [aluMod, Ref.mod, hb]
  · rw [aluMod, if_neg hb, Ref.mod, if_pos (toNat_ne_zero hb), ← BitVec.toNat_umod]
    exact eq_ofNat_toNat _

/-- The quotient of the signed readings wraps where it is out of range: the most negative value by -1 (40_alu.md R106).
-/
theorem computes_sdiv (w : Nat) : Computes (w := w) Ref.sdiv aluSdiv := by
  intro a b
  by_cases hb : b = 0
  · simp [aluSdiv, Ref.sdiv, hb]
  · rw [aluSdiv, if_neg hb, Ref.sdiv, if_pos (toNat_ne_zero hb), ofNat_unsigned, signed_toNat, signed_toNat]
    exact BitVec.eq_of_toInt_eq (by rw [BitVec.toInt_sdiv, BitVec.toInt_ofInt])

/-- What is left of the dividend is the remainder that truncation leaves, in range without wrapping. -/
theorem computes_smod (w : Nat) : Computes (w := w) Ref.smod aluSmod := by
  intro a b
  by_cases hb : b = 0
  · simp [aluSmod, Ref.smod, hb]
  · rw [aluSmod, if_neg hb, Ref.smod, if_pos (toNat_ne_zero hb), ofNat_unsigned, signed_toNat, signed_toNat,
      ← Int.tmod_def, ← BitVec.toInt_srem, BitVec.ofInt_toInt]

theorem add_forms : AluForms (fun a b => a + b) (fun a b => a + b) .add32Imm .add32Reg .add64Imm .add64Reg :=
  ⟨fun _ _ _ => rfl, fun _ _ _ => rfl, fun _ _ _ => rfl, fun _ _ _ => rfl⟩

theorem sub_forms : AluForms (fun a b => a - b) (fun a b => a - b) .sub32Imm .sub32Reg .sub64Imm .sub64Reg :=
  ⟨fun _ _ _ => rfl, fun _ _ _ => rfl, fun _ _ _ => rfl, fun _ _ _ => rfl⟩

theorem mul_forms : AluForms (fun a b => a * b) (fun a b => a * b) .mul32Imm .mul32Reg .mul64Imm .mul64Reg :=
  ⟨fun _ _ _ => rfl, fun _ _ _ => rfl, fun _ _ _ => rfl, fun _ _ _ => rfl⟩

theorem div_forms : AluForms aluDiv aluDiv .div32Imm .div32Reg .div64Imm .div64Reg :=
  ⟨fun _ _ _ => rfl, fun _ _ _ => rfl, fun _ _ _ => rfl, fun _ _ _ => rfl⟩

theorem mod_forms : AluForms aluMod aluMod .mod32Imm .mod32Reg .mod64Imm .mod64Reg :=
  ⟨fun _ _ _ => rfl, fun _ _ _ => rfl, fun _ _ _ => rfl, fun _ _ _ => rfl⟩

theorem sdiv_forms : AluForms aluSdiv aluSdiv .sdiv32Imm .sdiv32Reg .sdiv64Imm .sdiv64Reg :=
  ⟨fun _ _ _ => rfl, fun _ _ _ => rfl, fun _ _ _ => rfl, fun _ _ _ => rfl⟩

theorem smod_forms : AluForms aluSmod aluSmod .smod32Imm .smod32Reg .smod64Imm .smod64Reg :=
  ⟨fun _ _ _ => rfl, fun _ _ _ => rfl, fun _ _ _ => rfl, fun _ _ _ => rfl⟩

theorem or_forms : AluForms (fun a b => a ||| b) (fun a b => a ||| b) .or32Imm .or32Reg .or64Imm .or64Reg :=
  ⟨fun _ _ _ => rfl, fun _ _ _ => rfl, fun _ _ _ => rfl, fun _ _ _ => rfl⟩

theorem and_forms : AluForms (fun a b => a &&& b) (fun a b => a &&& b) .and32Imm .and32Reg .and64Imm .and64Reg :=
  ⟨fun _ _ _ => rfl, fun _ _ _ => rfl, fun _ _ _ => rfl, fun _ _ _ => rfl⟩

theorem xor_forms : AluForms (fun a b => a ^^^ b) (fun a b => a ^^^ b) .xor32Imm .xor32Reg .xor64Imm .xor64Reg :=
  ⟨fun _ _ _ => rfl, fun _ _ _ => rfl, fun _ _ _ => rfl, fun _ _ _ => rfl⟩

/-- Settles O1. -/
theorem wrappingArithmetic : Obligations.WrappingArithmetic :=
  ⟨add_forms.claim (computes_add 32) (computes_add 64), sub_forms.claim (computes_sub 32) (computes_sub 64),
    mul_forms.claim (computes_mul 32) (computes_mul 64)⟩

/-- Settles O2. -/
theorem unsignedDivision : Obligations.UnsignedDivision :=
  ⟨div_forms.claim (computes_div 32) (computes_div 64), mod_forms.claim (computes_mod 32) (computes_mod 64)⟩

/-- Settles O3: the readings of the quotient and the remainder as integers are the library's truncating ones. -/
theorem signedDivision : Obligations.SignedDivision :=
  ⟨sdiv_forms.claim (computes_sdiv 32) (computes_sdiv 64), smod_forms.claim (computes_smod 32) (computes_smod 64)⟩

/-- Settles O4. -/
theorem bitwiseOperations : Obligations.BitwiseOperations :=
  ⟨or_forms.claim (computes_or 32) (computes_or 64), and_forms.claim (computes_and 32) (computes_and 64),
    xor_forms.claim (computes_xor 32) (computes_xor 64)⟩

/-! ### Operations on one register. -/

theorem unaryClaim {f : State → Nat → Nat} {mk : Reg → Instr} {op : State → Word → Word}
    (hexec : ∀ d s, exec (mk d) s = aluUnary (op s) d s) (hop : ∀ s a, op s a = Ref.word (f s a.toNat)) :
    UnaryClaim f mk := by
  intro s d a hd ha
  refine ⟨_, (hexec d s).trans (aluUnary_ok hd ha), ?_⟩
  rw [hop]
  exact writesRegister_setReg s _ 1 hd.1

theorem moveClaim {f : Nat → Nat} {mk : Reg → Reg → Instr} {op : Word → Word}
    (hexec : ∀ d r s, exec (mk d r) s = movReg op d r s) (hop : ∀ b, op b = Ref.word (f b.toNat)) : MoveClaim f mk := by
  intro s d r b hd hb
  refine ⟨_, (hexec d r s).trans (movReg_ok hd hb), ?_⟩
  rw [hop]
  exact writesRegister_setReg s _ 1 hd.1

/-- A narrow value in a register, as a number (00_scope.md R9). -/
theorem zext64_eq_word {w : Nat} (x : BitVec w) : zext64 x = Ref.word x.toNat := by
  rw [zext64, ← BitVec.ofNat_toNat, Ref.word]

theorem word_toNat (a : Word) : a = Ref.word a.toNat := eq_ofNat_toNat a

theorem toNat_neg_eq_sub {w : Nat} (x : BitVec w) : (-x).toNat = Ref.sub w 0 x.toNat := by
  rw [← BitVec.zero_sub, toNat_sub_eq_sub, BitVec.toNat_zero]

/-- Settles O6. -/
theorem negation : Obligations.Negation :=
  ⟨unaryClaim (fun _ _ => rfl) fun _ a => by rw [zext64_eq_word, toNat_neg_eq_sub, low32_toNat],
    unaryClaim (fun _ _ => rfl) fun _ a => by rw [← toNat_neg_eq_sub]; exact word_toNat (-a)⟩

/-- Settles O7. -/
theorem moves : Obligations.Moves := by
  refine ⟨fun s d imm hd => ⟨?imm32, ?imm64⟩, ?reg32, ?reg64⟩
  case imm32 =>
    refine ⟨_, movValue_ok (v := zext64 imm) hd, ?_⟩
    rw [zext64_eq_word]
    exact writesRegister_setReg s _ 1 hd.1
  case imm64 =>
    refine ⟨_, movValue_ok (v := immWord imm) hd, ?_⟩
    rw [← immWord_toNat, ← word_toNat]
    exact writesRegister_setReg s _ 1 hd.1
  case reg32 => exact moveClaim (fun _ _ _ => rfl) fun b => by rw [zext64_eq_word, low32_toNat]
  case reg64 => exact moveClaim (fun _ _ _ => rfl) word_toNat

/-- The signed reading sees the low bits only (00_scope.md R7). -/
theorem signed_mod (w a : Nat) : Ref.signed w (a % 2 ^ w) = Ref.signed w a := by
  simp [Ref.signed]

/-- The low `k` bits sign-extended are the bit string of their signed reading (40_alu.md R108). -/
theorem sextLow_eq_ofInt {w : Nat} (k : Nat) (v : BitVec w) : sextLow k v = BitVec.ofInt w (Ref.signed k v.toNat) := by
  rw [sextLow, BitVec.signExtend, ← signed_toNat, BitVec.toNat_setWidth, signed_mod]

theorem sextLow_eq_word (k : Nat) (b : Word) : sextLow k b = Ref.word (Ref.unsigned 64 (Ref.signed k b.toNat)) := by
  rw [sextLow_eq_ofInt, Ref.word, ofNat_unsigned]

/-- At 32 bits the low half is what is left of the register, and `k` bits of it are `k` bits of the register. -/
theorem zext64_sextLow_low32 {k : Nat} (hk : k ≤ 32) (b : Word) :
    zext64 (sextLow k (low32 b)) = Ref.word (Ref.unsigned 32 (Ref.signed k b.toNat)) := by
  have hlow : Ref.signed k (b.toNat % 2 ^ 32) = Ref.signed k b.toNat := by
    rw [← signed_mod, Nat.mod_mod_of_dvd _ (Nat.pow_dvd_pow 2 hk), signed_mod]
  rw [sextLow_eq_ofInt, zext64_eq_word, low32_toNat, hlow, BitVec.toNat_ofInt]
  rfl

/-- Settles O8. -/
theorem signExtendingMoves : Obligations.SignExtendingMoves :=
  ⟨moveClaim (fun _ _ _ => rfl) (zext64_sextLow_low32 (by decide)),
    moveClaim (fun _ _ _ => rfl) (zext64_sextLow_low32 (by decide)), moveClaim (fun _ _ _ => rfl) (sextLow_eq_word 8),
    moveClaim (fun _ _ _ => rfl) (sextLow_eq_word 16), moveClaim (fun _ _ _ => rfl) (sextLow_eq_word 32)⟩

/-! ### Byte swaps. -/

/-- The operation on bit strings of `8 * n` bits reverses their `n` bytes (00_scope.md R15). -/
def Reverses {w : Nat} (n : Nat) (swap : BitVec w → BitVec w) : Prop :=
  ∀ v, (swap v).toNat = Ref.byteSwap n v.toNat

theorem bswap16_reverses : Reverses 2 bswap16 := fun v => by
  simp only [bswap16, toNat_append_eq_add, BitVec.extractLsb'_toNat, Nat.shiftRight_eq_div_pow, Ref.byteSwap,
    Nat.reducePow, Nat.div_one]
  ring

theorem bswap32_reverses : Reverses 4 bswap32 := fun v => by
  simp only [bswap32, toNat_append_eq_add, BitVec.extractLsb'_toNat, Nat.shiftRight_eq_div_pow, Ref.byteSwap,
    Nat.div_div_eq_div_mul, Nat.reducePow, Nat.reduceMul, Nat.div_one]
  ring

theorem bswap64_reverses : Reverses 8 bswap64 := fun v => by
  simp only [bswap64, toNat_append_eq_add, BitVec.extractLsb'_toNat, Nat.shiftRight_eq_div_pow, Ref.byteSwap,
    Nat.div_div_eq_div_mul, Nat.reducePow, Nat.reduceMul, Nat.div_one]
  ring

section
variable {w n : Nat} {swap : BitVec w → BitVec w}

theorem zext64_swap (h : Reverses n swap) (a : Word) :
    zext64 (swap (a.setWidth w)) = Ref.word (Ref.byteSwap n (a.toNat % 2 ^ w)) := by
  rw [zext64_eq_word, h, BitVec.toNat_setWidth]

theorem zext64_setWidth (w : Nat) (a : Word) : zext64 (a.setWidth w) = Ref.word (a.toNat % 2 ^ w) := by
  rw [zext64_eq_word, BitVec.toNat_setWidth]

theorem zext64_toLittle (h : Reverses n swap) (e : Endian) (a : Word) :
    zext64 (toLittle e swap (a.setWidth w)) =
      Ref.word (if e = .little then a.toNat % 2 ^ w else Ref.byteSwap n (a.toNat % 2 ^ w)) := by
  cases e
  · exact zext64_setWidth w a
  · exact zext64_swap h a

theorem zext64_toBig (h : Reverses n swap) (e : Endian) (a : Word) :
    zext64 (toBig e swap (a.setWidth w)) =
      Ref.word (if e = .little then Ref.byteSwap n (a.toNat % 2 ^ w) else a.toNat % 2 ^ w) := by
  cases e
  · exact zext64_swap h a
  · exact zext64_setWidth w a

end

/-- Settles O10: the three swaps reverse the bytes of their width, and the order of the platform says when. -/
theorem byteSwaps : Obligations.ByteSwaps :=
  ⟨unaryClaim (fun _ _ => rfl) fun s => zext64_toLittle bswap16_reverses s.platform.endian,
    unaryClaim (fun _ _ => rfl) fun s => zext64_toLittle bswap32_reverses s.platform.endian,
    unaryClaim (fun _ _ => rfl) fun s => zext64_toLittle bswap64_reverses s.platform.endian,
    unaryClaim (fun _ _ => rfl) fun s => zext64_toBig bswap16_reverses s.platform.endian,
    unaryClaim (fun _ _ => rfl) fun s => zext64_toBig bswap32_reverses s.platform.endian,
    unaryClaim (fun _ _ => rfl) fun s => zext64_toBig bswap64_reverses s.platform.endian,
    unaryClaim (fun _ _ => rfl) fun _ => zext64_swap bswap16_reverses,
    unaryClaim (fun _ _ => rfl) fun _ => zext64_swap bswap32_reverses,
    unaryClaim (fun _ _ => rfl) fun _ => zext64_swap bswap64_reverses⟩

end Sys2Proof.Machine
end

section
/-! PROOFS. Jumps, calls and exit (42_jump.md). The conditions are tied to the comparisons of `Ref` by `Compares`, as
the arithmetic is by `Computes`. -/

namespace Sys2Proof.Machine

/-! ### Jumps. -/

/-- The target of a jump, as plain numbers give it (42_jump.md R223). -/
theorem jumpTarget_eq_signed {w : Nat} (pc : Int) (d : BitVec w) : jumpTarget pc d = pc + 1 + Ref.signed w d.toNat := by
  rw [jumpTarget, signed_toNat]

/-- Going to a slot is what `GoesTo` says. -/
theorem goesTo_goTo (s : State) (target : Int) : GoesTo s (s.goTo target) target :=
  ⟨rfl, fun _ _ => rfl, ⟨rfl, fun _ => rfl⟩, ⟨rfl, rfl, rfl, rfl, rfl, rfl, rfl⟩⟩

/-- Settles O11. -/
theorem unconditionalJumps : Obligations.UnconditionalJumps := by
  intro s
  refine ⟨fun off => ⟨_, rfl, ?_⟩, fun imm => ⟨_, rfl, ?_⟩⟩ <;>
    (rw [← jumpTarget_eq_signed]; exact goesTo_goTo s _)

/-- The condition on bit strings of `w` bits is the comparison of their unsigned readings. -/
def Compares {w : Nat} (c : Nat → Nat → Nat → Bool) (cond : BitVec w → BitVec w → Bool) : Prop :=
  ∀ a b, cond a b = c w a.toNat b.toNat

theorem compares_eq (w : Nat) : Compares (w := w) Ref.jeq condEq := fun _ _ =>
  decide_eq_decide.mpr BitVec.toNat_inj.symm

theorem compares_ne (w : Nat) : Compares (w := w) Ref.jne condNe := fun _ _ =>
  decide_eq_decide.mpr (not_congr BitVec.toNat_inj.symm)

/-- A conjunction of bits is not zero where a bit is set in both. -/
theorem and_ne_zero_iff {w : Nat} (a b : BitVec w) :
    a &&& b ≠ 0 ↔ ∃ i < w, a.toNat.testBit i = true ∧ b.toNat.testBit i = true := by
  have hzero : a &&& b = 0 ↔ ∀ i < w, ¬ (a.toNat.testBit i = true ∧ b.toNat.testBit i = true) := by
    simp [BitVec.eq_of_getLsbD_eq_iff, BitVec.testBit_toNat]
  rw [ne_eq, hzero]
  push Not
  rfl

theorem compares_set (w : Nat) : Compares (w := w) Ref.jset condSet := fun a b => by
  rw [Bool.eq_iff_iff, condSet, decide_eq_true_iff, and_ne_zero_iff, Ref.jset]
  simp

theorem compares_gt (w : Nat) : Compares (w := w) Ref.jgt condGt := fun _ _ => rfl
theorem compares_ge (w : Nat) : Compares (w := w) Ref.jge condGe := fun _ _ => rfl
theorem compares_lt (w : Nat) : Compares (w := w) Ref.jlt condLt := fun _ _ => rfl
theorem compares_le (w : Nat) : Compares (w := w) Ref.jle condLe := fun _ _ => rfl

theorem compares_sgt (w : Nat) : Compares (w := w) Ref.jsgt condSgt := fun a b => by
  rw [Ref.jsgt, signed_toNat, signed_toNat]; rfl
theorem compares_sge (w : Nat) : Compares (w := w) Ref.jsge condSge := fun a b => by
  rw [Ref.jsge, signed_toNat, signed_toNat]; rfl
theorem compares_slt (w : Nat) : Compares (w := w) Ref.jslt condSlt := fun a b => by
  rw [Ref.jslt, signed_toNat, signed_toNat]; rfl
theorem compares_sle (w : Nat) : Compares (w := w) Ref.jsle condSle := fun a b => by
  rw [Ref.jsle, signed_toNat, signed_toNat]; rfl

/-- A conditional jump completes where its registers are written. -/
theorem branch_goesTo (s : State) {taken taken' : Bool} (h : taken = taken') (off : BitVec 16) :
    GoesTo s (s.branch taken off) (if taken' then s.pc + 1 + Ref.signed 16 off.toNat else s.pc + 1) := by
  rw [State.branch_eq, ← jumpTarget_eq_signed, h]
  exact goesTo_goTo s _

/-- The four instructions of a condition compare by `cond32` and `cond64` on their forms of operands (42_jump.md R225).
-/
structure JumpForms (cond32 : BitVec 32 → BitVec 32 → Bool) (cond64 : Word → Word → Bool)
    (k32 : Reg → BitVec 16 → BitVec 32 → Instr) (x32 : Reg → Reg → BitVec 16 → Instr)
    (k64 : Reg → BitVec 16 → BitVec 32 → Instr) (x64 : Reg → Reg → BitVec 16 → Instr) : Prop where
  imm32 : ∀ d off imm s, exec (k32 d off imm) s = jcc32K cond32 d off imm s
  reg32 : ∀ d r off s, exec (x32 d r off) s = jcc32X cond32 d r off s
  imm64 : ∀ d off imm s, exec (k64 d off imm) s = jcc64K cond64 d off imm s
  reg64 : ∀ d r off s, exec (x64 d r off) s = jcc64X cond64 d r off s

/-- The claim about a family of four conditional jumps, from what their condition compares at each width. -/
theorem JumpForms.claim {c : Nat → Nat → Nat → Bool} {cond32 : BitVec 32 → BitVec 32 → Bool}
    {cond64 : Word → Word → Bool} {k32 : Reg → BitVec 16 → BitVec 32 → Instr} {x32 : Reg → Reg → BitVec 16 → Instr}
    {k64 : Reg → BitVec 16 → BitVec 32 → Instr} {x64 : Reg → Reg → BitVec 16 → Instr}
    (forms : JumpForms cond32 cond64 k32 x32 k64 x64) (h32 : Compares c cond32) (h64 : Compares c cond64) :
    JumpClaim c k32 x32 k64 x64 := by
  intro s d a off ha
  refine ⟨fun imm => ⟨?imm32, ?imm64⟩, fun r b hb => ⟨?reg32, ?reg64⟩⟩
  case imm32 =>
    rw [forms.imm32, jcc32K, withReg_some ha, ← low32_toNat]
    exact ⟨_, rfl, branch_goesTo s (h32 _ _) off⟩
  case imm64 =>
    rw [forms.imm64, jcc64K, withReg_some ha, ← immWord_toNat]
    exact ⟨_, rfl, branch_goesTo s (h64 _ _) off⟩
  case reg32 =>
    rw [forms.reg32, jcc32X, withReg_some ha, withReg_some hb, ← low32_toNat, ← low32_toNat]
    exact ⟨_, rfl, branch_goesTo s (h32 _ _) off⟩
  case reg64 =>
    rw [forms.reg64, jcc64X, withReg_some ha, withReg_some hb]
    exact ⟨_, rfl, branch_goesTo s (h64 _ _) off⟩

theorem jeq_forms : JumpForms condEq condEq .jeq32Imm .jeq32Reg .jeqImm .jeqReg :=
  ⟨fun _ _ _ _ => rfl, fun _ _ _ _ => rfl, fun _ _ _ _ => rfl, fun _ _ _ _ => rfl⟩

theorem jgt_forms : JumpForms condGt condGt .jgt32Imm .jgt32Reg .jgtImm .jgtReg :=
  ⟨fun _ _ _ _ => rfl, fun _ _ _ _ => rfl, fun _ _ _ _ => rfl, fun _ _ _ _ => rfl⟩

theorem jge_forms : JumpForms condGe condGe .jge32Imm .jge32Reg .jgeImm .jgeReg :=
  ⟨fun _ _ _ _ => rfl, fun _ _ _ _ => rfl, fun _ _ _ _ => rfl, fun _ _ _ _ => rfl⟩

theorem jset_forms : JumpForms condSet condSet .jset32Imm .jset32Reg .jsetImm .jsetReg :=
  ⟨fun _ _ _ _ => rfl, fun _ _ _ _ => rfl, fun _ _ _ _ => rfl, fun _ _ _ _ => rfl⟩

theorem jne_forms : JumpForms condNe condNe .jne32Imm .jne32Reg .jneImm .jneReg :=
  ⟨fun _ _ _ _ => rfl, fun _ _ _ _ => rfl, fun _ _ _ _ => rfl, fun _ _ _ _ => rfl⟩

theorem jsgt_forms : JumpForms condSgt condSgt .jsgt32Imm .jsgt32Reg .jsgtImm .jsgtReg :=
  ⟨fun _ _ _ _ => rfl, fun _ _ _ _ => rfl, fun _ _ _ _ => rfl, fun _ _ _ _ => rfl⟩

theorem jsge_forms : JumpForms condSge condSge .jsge32Imm .jsge32Reg .jsgeImm .jsgeReg :=
  ⟨fun _ _ _ _ => rfl, fun _ _ _ _ => rfl, fun _ _ _ _ => rfl, fun _ _ _ _ => rfl⟩

theorem jlt_forms : JumpForms condLt condLt .jlt32Imm .jlt32Reg .jltImm .jltReg :=
  ⟨fun _ _ _ _ => rfl, fun _ _ _ _ => rfl, fun _ _ _ _ => rfl, fun _ _ _ _ => rfl⟩

theorem jle_forms : JumpForms condLe condLe .jle32Imm .jle32Reg .jleImm .jleReg :=
  ⟨fun _ _ _ _ => rfl, fun _ _ _ _ => rfl, fun _ _ _ _ => rfl, fun _ _ _ _ => rfl⟩

theorem jslt_forms : JumpForms condSlt condSlt .jslt32Imm .jslt32Reg .jsltImm .jsltReg :=
  ⟨fun _ _ _ _ => rfl, fun _ _ _ _ => rfl, fun _ _ _ _ => rfl, fun _ _ _ _ => rfl⟩

theorem jsle_forms : JumpForms condSle condSle .jsle32Imm .jsle32Reg .jsleImm .jsleReg :=
  ⟨fun _ _ _ _ => rfl, fun _ _ _ _ => rfl, fun _ _ _ _ => rfl, fun _ _ _ _ => rfl⟩

/-- Settles O12. -/
theorem equalityJumps : Obligations.EqualityJumps :=
  ⟨jeq_forms.claim (compares_eq 32) (compares_eq 64),
    jne_forms.claim (compares_ne 32) (compares_ne 64),
    jset_forms.claim (compares_set 32) (compares_set 64)⟩

/-- Settles O13. -/
theorem unsignedJumps : Obligations.UnsignedJumps :=
  ⟨jgt_forms.claim (compares_gt 32) (compares_gt 64),
    jge_forms.claim (compares_ge 32) (compares_ge 64),
    jlt_forms.claim (compares_lt 32) (compares_lt 64),
    jle_forms.claim (compares_le 32) (compares_le 64)⟩

/-- Settles O14. -/
theorem signedJumps : Obligations.SignedJumps :=
  ⟨jsgt_forms.claim (compares_sgt 32) (compares_sgt 64),
    jsge_forms.claim (compares_sge 32) (compares_sge 64),
    jslt_forms.claim (compares_slt 32) (compares_slt 64),
    jsle_forms.claim (compares_sle 32) (compares_sle 64)⟩

/-! ### Program-local calls and exit. -/

theorem execCallLocal_ok {s : State} (h : s.calls.length < s.platform.maxCallDepth) (imm : BitVec 32) :
    execCallLocal imm s = .next (s.enterFunction (jumpTarget s.pc imm)) := by
  rw [execCallLocal, if_neg (by omega)]

theorem execExit_leave {s : State} {c : CallRecord} {rest : List CallRecord} (h : s.calls = c :: rest) :
    execExit s = .next (s.leaveFunction c rest) := by
  rw [execExit, h]

theorem execExit_outermost {s : State} (h : s.calls = []) : execExit s = withReg s 0 fun v => .next (s.halt v) := by
  rw [execExit, h]

/-- The frame pointer of the callee, as integers give it (42_jump.md R229). -/
theorem sub_ofNat_eq_ofInt (fp : Word) (n : Nat) : fp - BitVec.ofNat 64 n = BitVec.ofInt 64 ((fp.toNat : Int) - n) := by
  apply BitVec.eq_of_toNat_eq
  rw [BitVec.toNat_sub, BitVec.toNat_ofNat, BitVec.toNat_ofInt]
  omega

/-- Settles O17. -/
theorem callLocal : Obligations.CallLocal := by
  intro s imm
  refine ⟨fun hlt => ⟨_, execCallLocal_ok hlt imm, ?_⟩, fun hge => ?_⟩
  · refine ⟨State.enterFunction_calls s _, ?callee, ?fp, ?frame, ?pc, ⟨State.enterFunction_mem s _, ?bytes⟩, by simp⟩
    case callee =>
      intro r hr
      rw [State.enterFunction_reg, if_neg (by rintro rfl; simp at hr), if_pos hr]
    case fp =>
      rw [State.enterFunction_reg, if_pos rfl]
      simp only [sub_ofNat_eq_ofInt]
    case frame =>
      intro r hr
      have hcallee : r ∉ ([6, 7, 8, 9] : List Reg) := fun hm => hr (by simp_all)
      rw [State.enterFunction_reg, if_neg (fun h => hr (by simp [h])), if_neg hcallee]
    case pc => rw [State.enterFunction_pc, jumpTarget_eq_signed]
    case bytes => exact fun a => State.byteAt_congr (by simp) (by simp) a
  · change execCallLocal imm s = _
    rw [execCallLocal, if_pos hge]

/-- Settles O18. -/
theorem exitReturns : Obligations.ExitReturns := by
  intro s c rest hcalls
  refine ⟨_, execExit_leave hcalls, ?_⟩
  have hargs : ∀ r ∈ ([1, 2, 3, 4, 5] : List Reg), (s.leaveFunction c rest).reg r = none := fun r hr => by
    rw [State.leaveFunction_reg, if_pos hr]
  refine ⟨by simp, by simp, ?_, ?_, ?_, ?_, ?_, hargs, ?_,
    ⟨by simp, State.byteAt_congr (by simp) (by simp)⟩, by simp⟩ <;>
    (rw [State.leaveFunction_reg]; rfl)

/-- Settles O19. -/
theorem exitEndsTheRun : Obligations.ExitEndsTheRun := by
  intro s
  refine ⟨fun v hcalls hv => ⟨s.halt v, ?_, rfl, fun _ _ => rfl, rfl, ⟨rfl, fun _ => rfl⟩, hcalls, rfl, rfl, rfl, rfl,
    rfl, rfl⟩, fun hcalls hnone => ?_⟩
  · exact (execExit_outermost hcalls).trans (withReg_some hv _)
  · exact (execExit_outermost hcalls).trans (withReg_unwritten hnone (by decide) _)

/-- Settles O20: the call pushes one record, and the matching exit gives its registers and its place back. -/
theorem callThenReturnRestores : Obligations.CallThenReturnRestores := by
  intro s s1 s2 t imm hcall hsame hexit
  obtain ⟨-, rfl⟩ := execCallLocal_next hcall
  rw [State.enterFunction_calls] at hsame
  rcases execExit_next hexit with ⟨_, hnil, -, -⟩ | ⟨c, rest, hcons, rfl⟩
  · cases hsame.symm.trans hnil
  · obtain ⟨rfl, rfl⟩ := List.cons.inj (hsame.symm.trans hcons)
    refine ⟨?pc, State.leaveFunction_calls s2 _ _, ?saved, ?result, ?args, ?memory⟩
    case pc => rw [State.leaveFunction_pc]; rfl
    case saved =>
      intro r hr
      simp only [List.mem_cons, List.not_mem_nil, or_false] at hr
      rw [State.leaveFunction_reg]
      rcases hr with rfl | rfl | rfl | rfl | rfl <;> rfl
    case result => rw [State.leaveFunction_reg]; rfl
    case args => exact fun r hr => by rw [State.leaveFunction_reg, if_pos hr]
    case memory => exact ⟨State.leaveFunction_mem s2 _ _, State.byteAt_congr (by simp) (by simp)⟩

/-! ### Helper calls. -/

theorem exec_callHelper (id : BitVec 32) (s : State) :
    exec (.callHelper id) s = callHelper s.platform.helpers false id s := rfl

theorem exec_callBtf (id : BitVec 32) (s : State) :
    exec (.callBtf id) s = callHelper s.platform.btfHelpers true id s := rfl

/-- What a helper call does once the needed registers are read (42_jump.md R228). -/
def State.afterAnswer (s : State) : HelperAnswer → Result
  | .returns result writes => .next (s.helperReturns result writes)
  | .memFault addr n kind => .fault (.memFault addr n kind)
  | .declines => .fault (.refused .helperDeclined)

section
variable {table : HelperTable} {btf : Bool} {id : BitVec 32} {s : State} {needs more : List Reg}

theorem callHelper_unknown (h : table.needs? id = none) : callHelper table btf id s = .fault (.unknownHelper id) := by
  rw [callHelper, h]

/-- A helper call whose id is defined reads what the helper needs and then does what the helper answers. -/
theorem callHelper_known {answer : HelperAnswer} (h : table.needs? id = some needs)
    (hreply : s.helperReply btf id = ⟨more, answer⟩) :
    callHelper table btf id s = withNeeded s (needs ++ more) (s.afterAnswer answer) := by
  rw [callHelper, h]
  simp only [hreply]
  rfl

theorem helperReturns_byteAt (s : State) (result : Word) (writes : List Host.Cell) {a : Nat} (ha : a < addressCount) :
    (s.helperReturns result writes).byteAt a = (Ref.lastWrite writes a).getD (s.byteAt a) := by
  rw [State.byteAt, State.helperReturns_mem, State.helperReturns_platform, Memory.get_apply _ _ ha]
  cases Ref.lastWrite writes a <;> rfl

end

/-- A helper that returns gives its result, clobbers the argument registers and leaves memory as it wrote it. -/
theorem helperClaim {table : State → HelperTable} {btf : Bool} {mk : BitVec 32 → Instr}
    (hexec : ∀ id s, exec (mk id) s = callHelper (table s) btf id s) : HelperClaim table btf mk := by
  intro s id needs more result writes hid hreply hneeds
  refine ⟨s.helperReturns result writes, ?exec, ?result, ?args, ?frame, State.helperReturns_pc s _ _,
    fun a ha => helperReturns_byteAt s _ _ ha, by simp⟩
  case exec =>
    rw [hexec, callHelper_known hid hreply]
    exact withNeeded_ok (fun r hr hm => hneeds r hr (List.mem_append.mp hm)) _
  case result => rw [State.helperReturns_reg]; rfl
  case args => exact fun r hr => by rw [State.helperReturns_reg, if_pos hr]
  case frame =>
    intro r hr
    have hargs : r ∉ ([1, 2, 3, 4, 5] : List Reg) := fun hm => hr (List.mem_cons_of_mem 0 hm)
    have h0 : r ≠ 0 := fun h0 => hr (by simp [h0])
    rw [State.helperReturns_reg, if_neg hargs, if_neg h0]

/-- Settles O15. -/
theorem helperCalls : Obligations.HelperCalls := ⟨helperClaim exec_callHelper, helperClaim exec_callBtf⟩

/-- Settles O16: the two instructions are one operation on their tables, whose checks come in the order of the claim. -/
theorem helperFaults : Obligations.HelperFaults := by
  intro s id mk table btf hmk
  have hexec : exec (mk id) s = callHelper table btf id s := by
    rcases hmk with ⟨rfl, rfl, rfl⟩ | ⟨rfl, rfl, rfl⟩ <;> rfl
  rw [hexec]
  refine ⟨callHelper_unknown, fun needs more answer hid hreply => ?_⟩
  rw [callHelper_known hid hreply]
  refine ⟨fun r hr hm hnone hlower => ?unwritten, fun hneeds => ?answers⟩
  case unwritten =>
    exact withNeeded_unwritten hr (List.mem_append.mpr hm) hnone
      (fun q hq hlt hqm => hlower q hq hlt (List.mem_append.mp hqm)) _
  case answers =>
    rw [withNeeded_ok fun r hr hm => hneeds r hr (List.mem_append.mp hm)]
    exact ⟨fun addr n kind h => by rw [h]; rfl, fun h => by rw [h]; rfl⟩

end Sys2Proof.Machine
end

section
/-! PROOFS. Memory (20_memory.md) and the instructions that access it (43_load_store.md, 44_atomic.md). A value in
memory is known by its bytes: reading assembles them (`byteOf_assemble`), storing places them (`State.byteAt_memWrite`),
and two values with the same bytes are equal (`eq_of_byteOf`). -/

namespace Sys2Proof.Machine

/-! ### The bytes of a value. -/

theorem byteOf_toNat {w : Nat} (v : BitVec w) (j : Nat) : (byteOf v j).toNat = v.toNat / 256 ^ j % 256 := by
  rw [byteOf, BitVec.extractLsb'_toNat, Nat.shiftRight_eq_div_pow, pow_mul]
  rfl

theorem byteOf_eq_ofNat {w : Nat} (v : BitVec w) (j : Nat) : byteOf v j = BitVec.ofNat 8 (v.toNat / 256 ^ j) :=
  BitVec.eq_of_toNat_eq (by rw [byteOf_toNat, BitVec.toNat_ofNat])

/-- A value of `n` bytes is determined by them. -/
theorem eq_of_byteOf {n : Nat} {u v : BitVec (8 * n)} (h : ∀ j < n, byteOf u j = byteOf v j) : u = v := by
  apply BitVec.eq_of_getLsbD_eq
  intro i hi
  have hbit := congrArg (fun b => b.getLsbD (i % 8)) (h (i / 8) (by omega))
  simpa [byteOf, Nat.mod_lt, Nat.div_add_mod] using hbit

/-- The low `n` bytes of a number are those of its low `8 * n` bits. -/
theorem ofNat_mod_div {n j : Nat} (h : j < n) (v : Nat) :
    BitVec.ofNat 8 (v % 2 ^ (8 * n) / 256 ^ j) = BitVec.ofNat 8 (v / 256 ^ j) := by
  have hsplit : 2 ^ (8 * n) = 256 ^ j * 256 ^ (n - j) := by
    rw [← pow_add, Nat.add_sub_cancel' h.le, pow_mul]
    rfl
  have hdvd : 256 ∣ 256 ^ (n - j) := dvd_pow_self 256 (by omega)
  apply BitVec.eq_of_toNat_eq
  rw [hsplit, Nat.mod_mul_right_div_self, BitVec.toNat_ofNat, BitVec.toNat_ofNat]
  exact Nat.mod_mod_of_dvd _ hdvd

theorem littleNat_byte (bs : List Byte) {j : Nat} (h : j < bs.length) :
    BitVec.ofNat 8 (littleNat bs / 256 ^ j) = bs[j] := by
  induction bs generalizing j with
  | nil => cases h
  | cons b bs ih =>
    cases j with
    | zero =>
      apply BitVec.eq_of_toNat_eq
      have := b.isLt
      simp only [littleNat, pow_zero, Nat.div_one, BitVec.toNat_ofNat, List.getElem_cons_zero]
      omega
    | succ j =>
      have hrest : (b.toNat + 256 * littleNat bs) / 256 = littleNat bs := by
        have := b.isLt
        omega
      rw [littleNat, pow_succ', ← Nat.div_div_eq_div_mul, hrest, List.getElem_cons_succ]
      exact ih (Nat.lt_of_succ_lt_succ h)

theorem position_lt (e : Endian) {n i : Nat} (h : i < n) : Ref.position e n i < n := by
  cases e <;> simp only [Ref.position] <;> omega

/-- Counting from the other end twice is counting from the same end. -/
theorem position_position (e : Endian) {n i : Nat} (h : i < n) : Ref.position e n (Ref.position e n i) = i := by
  cases e
  · rfl
  · simp only [Ref.position]; omega

/-- A byte of the value that bytes at rising addresses stand for (20_memory.md R42). -/
theorem byteOf_assemble (e : Endian) {n j : Nat} (byte : Nat → Byte) (h : j < n) :
    byteOf (assemble e n ((List.range n).map byte)) j = byte (Ref.position e n j) := by
  rw [byteOf_eq_ofNat]
  cases e
  · rw [assemble, BitVec.toNat_ofNat, ofNat_mod_div h, littleNat_byte _ (by simpa using h)]
    simp [Ref.position]
  · rw [assemble, BitVec.toNat_ofNat, ofNat_mod_div h, littleNat_byte _ (by simpa using h)]
    simp [Ref.position]

/-- Bytes that are those of a value assemble to it. -/
theorem assemble_eq {e : Endian} {n : Nat} {byte : Nat → Byte} {v : BitVec (8 * n)}
    (h : ∀ i < n, byte i = byteOf v (Ref.position e n i)) : assemble e n ((List.range n).map byte) = v :=
  eq_of_byteOf fun j hj => by
    rw [byteOf_assemble e byte hj, h _ (position_lt e hj), position_position e hj]

theorem assemble_congr (e : Endian) {n : Nat} {byte byte' : Nat → Byte} (h : ∀ i < n, byte i = byte' i) :
    assemble e n ((List.range n).map byte) = assemble e n ((List.range n).map byte') := by
  rw [List.map_congr_left fun i hi => h i (List.mem_range.mp hi)]

/-! ### Reading what a store has written. -/

/-- A byte inside a store, at its position in the stored value (20_memory.md R42). -/
theorem State.byteAt_memWrite (s : State) (addr : Word) {n i : Nat} (v : BitVec (8 * n)) (h : i < n) :
    (s.memWrite addr n v).byteAt (addr.toNat + i) = byteOf v (Ref.position s.platform.endian n i) := by
  rw [State.byteAt_memWrite_inside s addr n v h]
  cases s.platform.endian <;> rfl

theorem State.byteOf_memRead (s : State) (addr : Word) {n j : Nat} (h : j < n) :
    byteOf (s.memRead addr n) j = s.byteAt (addr.toNat + Ref.position s.platform.endian n j) :=
  byteOf_assemble _ _ h

theorem State.memRead_memWrite (s : State) (addr : Word) (n : Nat) (v : BitVec (8 * n)) :
    (s.memWrite addr n v).memRead addr n = v :=
  assemble_eq fun _ hi => s.byteAt_memWrite addr v hi

/-- A regular read that no race touches gives what memory holds (20_memory.md R47). -/
theorem State.regularRead_eq_memRead {s : State} {addr : Word} {n : Nat}
    (h : ∀ i, i < n → s.racing.lookup (addr.toNat + i) = none ∨ ¬ Shared s.platform (addr.toNat + i)) :
    s.regularRead addr n = s.memRead addr n :=
  assemble_congr _ fun i hi => by
    rw [State.regularByteAt_eq]
    rcases h i hi with hnone | hprivate
    · simp [hnone]
    · rw [if_neg fun hrace => hprivate hrace.1]

/-- Settles O24. -/
theorem loadAfterStore : Obligations.LoadAfterStore := fun s addr n v _ =>
  ⟨s.memRead_memWrite addr n v, fun h =>
    (State.regularRead_eq_memRead (s := s.memWrite addr n v) h).trans (s.memRead_memWrite addr n v)⟩

theorem lookup_map_of_injective {f : Nat → Nat} (hf : f.Injective) (g : Nat → Byte) {l : List Nat} {i : Nat}
    (h : i ∈ l) : (l.map fun i => (f i, g i)).lookup (f i) = some (g i) := by
  induction l with
  | nil => cases h
  | cons k l ih =>
    by_cases hk : i = k
    · simp [hk]
    · have hne : (f i == f k) = false := by simpa using fun heq => hk (hf heq)
      rw [List.map_cons, List.lookup_cons, hne]
      exact ih ((List.mem_cons.mp h).resolve_left hk)

/-- Settles O55: the third part lists as draws the bytes of the value wanted. -/
theorem racingReads : Obligations.RacingReads := by
  intro s addr n
  refine ⟨State.regularRead_eq_memRead, fun hsingle => ?single, fun hshared hsingle v => ?race⟩
  case single =>
    exact assemble_congr _ fun i _ => by rw [State.regularByteAt_eq, if_neg fun hrace => hrace.2 hsingle]
  case race =>
    refine ⟨(List.range n).map fun i => (addr.toNat + i, byteOf v (Ref.position s.platform.endian n i)), ?_⟩
    refine assemble_eq fun i hi => ?_
    rw [State.regularByteAt_eq, if_pos ⟨hshared i hi, hsingle⟩,
      lookup_map_of_injective (add_right_injective addr.toNat) _ (List.mem_range.mpr hi)]
    rfl

/-! ### Accesses of different widths (20_memory.md R43). -/

/-- The address of a byte inside an access that does not run past the last address. -/
theorem toNat_add_ofNat {addr : Word} {i : Nat} (h : addr.toNat + i < addressCount) :
    (addr + BitVec.ofNat 64 i).toNat = addr.toNat + i := by
  simp only [addressCount] at h
  rw [BitVec.toNat_add, BitVec.toNat_ofNat]
  omega

theorem byteOf_extractLsb' {w : Nat} (v : BitVec w) {i m j : Nat} (h : j < m) :
    byteOf (v.extractLsb' (8 * i) (8 * m)) j = byteOf v (i + j) := by
  apply BitVec.eq_of_getLsbD_eq
  intro k hk
  have hin : 8 * j + k < 8 * m := by omega
  simp [byteOf, hk, hin, Nat.mul_add, Nat.add_assoc]

/-- A narrower read inside a store gives the bytes that the store placed there. -/
theorem State.byteOf_memRead_memWrite (s : State) {addr : Word} {n m i j : Nat} (v : BitVec (8 * n)) (him : i + m ≤ n)
    (hend : addr.toNat + n ≤ addressCount) (hj : j < m) :
    byteOf ((s.memWrite addr n v).memRead (addr + BitVec.ofNat 64 i) m) j =
      byteOf v (Ref.position s.platform.endian n (i + Ref.position s.platform.endian m j)) := by
  have hpos := position_lt s.platform.endian hj
  rw [State.byteOf_memRead _ _ hj, State.memWrite_platform, toNat_add_ofNat (by omega), Nat.add_assoc,
    State.byteAt_memWrite s addr v (by omega)]

/-- A byte around a narrower store is the stored one inside it and the old one outside. -/
theorem State.byteAt_memWrite_at (s : State) {addr : Word} {n m i j : Nat} (v : BitVec (8 * m)) (him : i + m ≤ n)
    (hj : j < n) (hend : addr.toNat + n ≤ addressCount) :
    (s.memWrite (addr + BitVec.ofNat 64 i) m v).byteAt (addr.toNat + j) =
      if i ≤ j ∧ j < i + m then byteOf v (Ref.position s.platform.endian m (j - i)) else s.byteAt (addr.toNat + j) := by
  split
  · have haddr : addr.toNat + j = (addr + BitVec.ofNat 64 i).toNat + (j - i) := by
      rw [toNat_add_ofNat (by omega)]
      omega
    rw [haddr, State.byteAt_memWrite _ _ _ (by omega)]
  · apply State.byteAt_memWrite_outside
    by_cases hm : m = 0
    · omega
    · rw [toNat_add_ofNat (by omega)]
      omega

/-- A byte of what a read gives, at its position. -/
theorem State.extractLsb'_memRead (s : State) (addr : Word) {e : Endian} {n j : Nat} (he : s.platform.endian = e)
    (hj : j < n) : (s.memRead addr n).extractLsb' (8 * Ref.position e n j) 8 = s.byteAt (addr.toNat + j) := by
  subst he
  have hbyte := s.byteOf_memRead addr (position_lt s.platform.endian hj)
  rwa [position_position _ hj] at hbyte

/-- Settles O25: both directions hold byte by byte, at the positions that the byte order gives. -/
theorem narrowReadOfWideStore : Obligations.NarrowReadOfWideStore := by
  refine ⟨fun s addr n m i v him hend => ?narrow, fun s addr n m i j v him hj hend => ?wide⟩
  case narrow =>
    refine eq_of_byteOf fun j hj => ?_
    rw [State.byteOf_memRead_memWrite s v him hend hj]
    cases s.platform.endian
    · exact (byteOf_extractLsb' v hj).symm
    · refine Eq.trans ?_ (byteOf_extractLsb' v hj).symm
      congr 1
      simp only [Ref.position]
      omega
  case wide =>
    rw [State.extractLsb'_memRead (s.memWrite (addr + BitVec.ofNat 64 i) m v) addr (e := s.platform.endian) rfl hj,
      State.extractLsb'_memRead s addr rfl hj]
    exact State.byteAt_memWrite_at s v him hj hend

/-! ### Loads. -/

theorem sext64_eq_word {w : Nat} (x : BitVec w) : sext64 x = Ref.word (Ref.unsigned 64 (Ref.signed w x.toNat)) := by
  rw [sext64, BitVec.signExtend, signed_toNat, Ref.word, ofNat_unsigned]

/-- A load that is admitted gives its destination the extension of the number that a regular read gives. -/
theorem loadClaim {n : Nat} {f : Nat → Nat} {mk : Reg → Reg → BitVec 16 → Instr} {ext : BitVec (8 * n) → Word}
    (hexec : ∀ d r off s, exec (mk d r off) s = loadWith n ext d r off s) (hext : ∀ x, ext x = Ref.word (f x.toNat)) :
    LoadClaim n f mk := by
  intro s d r off base hd hbase hadmits
  refine ⟨(s.setReg d (some (ext (s.regularRead (effectiveAddress base off) n)))).advance 1, ?_, ?_⟩
  · rw [hexec, loadWith, withDst_ok hd, withReg_some hbase, withAdmitted_ok hadmits, writeDst]
  · rw [hext, State.regularRead_toNat]
    exact writesRegister_setReg s _ 1 hd.1

/-- Settles O21. -/
theorem zeroExtendingLoads : Obligations.ZeroExtendingLoads :=
  ⟨loadClaim (fun _ _ _ _ => rfl) zext64_eq_word, loadClaim (fun _ _ _ _ => rfl) zext64_eq_word,
    loadClaim (fun _ _ _ _ => rfl) zext64_eq_word, loadClaim (fun _ _ _ _ => rfl) zext64_eq_word⟩

/-- Settles O22. -/
theorem signExtendingLoads : Obligations.SignExtendingLoads :=
  ⟨loadClaim (fun _ _ _ _ => rfl) sext64_eq_word, loadClaim (fun _ _ _ _ => rfl) sext64_eq_word,
    loadClaim (fun _ _ _ _ => rfl) sext64_eq_word⟩

/-! ### Stores. -/

/-- A store places the bytes of its value and no others. -/
theorem State.storesNumber_memWrite (s : State) (addr : Word) (n : Nat) (v : BitVec (8 * n)) :
    StoresNumber s (s.memWrite addr n v) addr.toNat n v.toNat :=
  ⟨fun i hi => by rw [State.byteAt_memWrite s addr v hi, byteOf_eq_ofNat]; rfl,
    fun _ ha => State.byteAt_memWrite_outside s addr n v ha⟩

/-- The bytes stored are those of the low `n` bytes of the number. -/
theorem stored_mod (e : Endian) {n i : Nat} (h : i < n) (v : Nat) :
    Ref.stored e n (v % 2 ^ (8 * n)) i = Ref.stored e n v i :=
  ofNat_mod_div (position_lt e h) v

theorem storeLow_toNat (n : Nat) (v : Word) : (storeLow n v).toNat = v.toNat % 2 ^ (8 * n) :=
  BitVec.toNat_setWidth (8 * n) v

theorem storeStep_memWrite (s : State) (addr : Word) (n : Nat) (v : Word) :
    StoreStep s ((s.memWrite addr n (storeLow n v)).advance 1) addr n v.toNat := by
  obtain ⟨hinside, houtside⟩ := s.storesNumber_memWrite addr n (storeLow n v)
  refine ⟨⟨fun i hi => ?_, houtside⟩, fun _ _ => rfl, rfl, rfl, rfl, rfl, rfl, rfl, rfl, rfl⟩
  rw [← stored_mod _ hi, ← storeLow_toNat]
  exact hinside i hi

section
variable {n : Nat} {s : State} {d r : Reg} {off : BitVec 16} {base v : Word}

theorem storeReg_ok (hbase : s.reg d = some base) (hv : s.reg r = some v)
    (hadmits : s.platform.admits (effectiveAddress base off) n .write = true) :
    storeReg n d r off s = .next ((s.memWrite (effectiveAddress base off) n (storeLow n v)).advance 1) := by
  rw [storeReg, withReg_some hbase, withReg_some hv, storeAt, withAdmitted_ok hadmits]

theorem storeImm_ok (hbase : s.reg d = some base) (imm : BitVec 32)
    (hadmits : s.platform.admits (effectiveAddress base off) n .write = true) :
    storeImm n d off imm s =
      .next ((s.memWrite (effectiveAddress base off) n (storeLow n (immWord imm))).advance 1) := by
  rw [storeImm, withReg_some hbase, storeAt, withAdmitted_ok hadmits]

end

theorem storeClaim {n : Nat} {fromReg : Reg → Reg → BitVec 16 → Instr} {fromImm : Reg → BitVec 16 → BitVec 32 → Instr}
    (hreg : ∀ d r off s, exec (fromReg d r off) s = storeReg n d r off s)
    (himm : ∀ d off imm s, exec (fromImm d off imm) s = storeImm n d off imm s) : StoreClaim n fromReg fromImm := by
  intro s d off base hbase hadmits
  refine ⟨fun imm => ⟨_, (himm d off imm s).trans (storeImm_ok hbase imm hadmits), ?_⟩, fun r v hv =>
    ⟨_, (hreg d r off s).trans (storeReg_ok hbase hv hadmits), storeStep_memWrite s _ n v⟩⟩
  rw [← immWord_toNat]
  exact storeStep_memWrite s _ n (immWord imm)

/-- Settles O23. -/
theorem stores : Obligations.Stores :=
  ⟨storeClaim (fun _ _ _ _ => rfl) fun _ _ _ _ => rfl, storeClaim (fun _ _ _ _ => rfl) fun _ _ _ _ => rfl,
    storeClaim (fun _ _ _ _ => rfl) fun _ _ _ _ => rfl, storeClaim (fun _ _ _ _ => rfl) fun _ _ _ _ => rfl⟩

/-! ### Atomic operations. -/

theorem atomicStep_memWrite (s : State) (addr : Word) (n : Nat) (v : BitVec (8 * n)) :
    AtomicStep s ((s.memWrite addr n v).advance 1) addr n v.toNat [] :=
  ⟨s.storesNumber_memWrite addr n v, fun _ _ => rfl, rfl, rfl, rfl, rfl, rfl, rfl, rfl, rfl⟩

theorem atomicStep_memWrite_setReg (s : State) (addr : Word) (n : Nat) (v : BitVec (8 * n)) (r : Reg)
    (old : Option Word) : AtomicStep s (((s.memWrite addr n v).setReg r old).advance 1) addr n v.toNat [r] :=
  ⟨s.storesNumber_memWrite addr n v, fun _ hq => State.setReg_reg_ne _ _ (List.ne_of_not_mem_cons hq), rfl, rfl, rfl,
    rfl, rfl, rfl, rfl, rfl⟩

section
variable {n : Nat} {f : BitVec (8 * n) → BitVec (8 * n) → BitVec (8 * n)} {s : State} {d r : Reg} {off : BitVec 16}
  {base v : Word}

theorem atomicNoFetch_ok (hbase : s.reg d = some base) (hv : s.reg r = some v)
    (hadmits : s.platform.admits (effectiveAddress base off) n .atomic = true) :
    atomicNoFetch n f d r off s = .next ((s.memWrite (effectiveAddress base off) n
      (f (s.memRead (effectiveAddress base off) n) (storeLow n v))).advance 1) := by
  rw [atomicNoFetch, withReg_some hbase, withReg_some hv, withAdmitted_ok hadmits, State.atomicRmw]

theorem atomicFetch_ok (hr : CanWrite s r) (hbase : s.reg d = some base) (hv : s.reg r = some v)
    (hadmits : s.platform.admits (effectiveAddress base off) n .atomic = true) :
    atomicFetch n f d r off s = .next (((s.memWrite (effectiveAddress base off) n
      (f (s.memRead (effectiveAddress base off) n) (storeLow n v))).setReg r
        (some (Ref.word (Ref.loaded s (effectiveAddress base off).toNat n)))).advance 1) := by
  rw [atomicFetch, withDst_ok hr, withReg_some hbase, withReg_some hv, withAdmitted_ok hadmits, State.atomicRmw,
    writeDst, zext64_eq_word, State.memRead_toNat]

theorem atomicCompareExchange_ok {expected : Word} (hbase : s.reg d = some base) (hv : s.reg r = some v)
    (hexpected : s.reg 0 = some expected) (hadmits : s.platform.admits (effectiveAddress base off) n .atomic = true) :
    atomicCompareExchange n d r off s = .next
      (((if s.memRead (effectiveAddress base off) n = storeLow n expected then
          s.memWrite (effectiveAddress base off) n (storeLow n v) else s).setReg 0
        (some (Ref.word (Ref.loaded s (effectiveAddress base off).toNat n)))).advance 1) := by
  rw [atomicCompareExchange, withReg_some hbase, withReg_some hv, withReg_some hexpected, withAdmitted_ok hadmits,
    writeDst, zext64_eq_word, State.memRead_toNat]

end

/-- An atomic operation at `n` bytes whose operation on bit strings computes `f`. -/
theorem atomicClaim {n : Nat} {f : Nat → Nat → Nat → Nat} {op : BitVec (8 * n) → BitVec (8 * n) → BitVec (8 * n)}
    {plain fetching : Reg → Reg → BitVec 16 → Instr} (hop : Computes f op)
    (hplain : ∀ d r off s, exec (plain d r off) s = atomicNoFetch n op d r off s)
    (hfetching : ∀ d r off s, exec (fetching d r off) s = atomicFetch n op d r off s) :
    AtomicClaim n f plain fetching := by
  intro s d r off base v hbase hv hadmits old new
  have hnew : (op (s.memRead (effectiveAddress base off) n) (storeLow n v)).toNat = new := by
    rw [hop, BitVec.toNat_ofNat, State.memRead_toNat, storeLow_toNat]
  rw [← hnew]
  refine ⟨⟨_, (hplain d r off s).trans (atomicNoFetch_ok hbase hv hadmits), atomicStep_memWrite s _ n _⟩, fun hr =>
    ⟨_, (hfetching d r off s).trans (atomicFetch_ok hr hbase hv hadmits), atomicStep_memWrite_setReg s _ n _ r _, ?_⟩⟩
  exact State.setReg_reg_same _ _ hr.1

/-- Settles O27. -/
theorem atomicReadModifyWrite : Obligations.AtomicReadModifyWrite :=
  ⟨atomicClaim (computes_add 32) (fun _ _ _ _ => rfl) fun _ _ _ _ => rfl,
    atomicClaim (computes_add 64) (fun _ _ _ _ => rfl) fun _ _ _ _ => rfl,
    atomicClaim (computes_or 32) (fun _ _ _ _ => rfl) fun _ _ _ _ => rfl,
    atomicClaim (computes_or 64) (fun _ _ _ _ => rfl) fun _ _ _ _ => rfl,
    atomicClaim (computes_and 32) (fun _ _ _ _ => rfl) fun _ _ _ _ => rfl,
    atomicClaim (computes_and 64) (fun _ _ _ _ => rfl) fun _ _ _ _ => rfl,
    atomicClaim (computes_xor 32) (fun _ _ _ _ => rfl) fun _ _ _ _ => rfl,
    atomicClaim (computes_xor 64) (fun _ _ _ _ => rfl) fun _ _ _ _ => rfl⟩

theorem exchangeClaim {n : Nat} {mk : Reg → Reg → BitVec 16 → Instr}
    (hexec : ∀ d r off s, exec (mk d r off) s = atomicFetch n (fun _ v => v) d r off s) : ExchangeClaim n mk := by
  intro s d r off base v hbase hv hr hadmits
  rw [← storeLow_toNat]
  refine ⟨_, (hexec d r off s).trans (atomicFetch_ok hr hbase hv hadmits), atomicStep_memWrite_setReg s _ n _ r _, ?_⟩
  exact State.setReg_reg_same _ _ hr.1

/-- Settles O28. -/
theorem atomicExchange : Obligations.AtomicExchange :=
  ⟨exchangeClaim fun _ _ _ _ => rfl, exchangeClaim fun _ _ _ _ => rfl⟩

/-- The comparison at the width of the operation, as numbers (44_atomic.md R335). -/
theorem memRead_eq_storeLow_iff (s : State) (addr : Word) (n : Nat) (expected : Word) :
    s.memRead addr n = storeLow n expected ↔ Ref.loaded s addr.toNat n = expected.toNat % 2 ^ (8 * n) := by
  rw [← BitVec.toNat_inj, State.memRead_toNat, storeLow_toNat]

theorem compareExchangeClaim {n : Nat} {mk : Reg → Reg → BitVec 16 → Instr}
    (hexec : ∀ d r off s, exec (mk d r off) s = atomicCompareExchange n d r off s) : CompareExchangeClaim n mk := by
  intro s d r off base v expected hbase hv hexpected hadmits old
  refine ⟨_, (hexec d r off s).trans (atomicCompareExchange_ok hbase hv hexpected hadmits),
    State.setReg_reg_same _ _ (by decide), fun heq => ?stored, fun hne => ?kept⟩
  case stored =>
    rw [if_pos ((memRead_eq_storeLow_iff s _ n expected).mpr heq), ← storeLow_toNat]
    exact atomicStep_memWrite_setReg s _ n _ 0 _
  case kept =>
    rw [if_neg (mt (memRead_eq_storeLow_iff s _ n expected).mp hne)]
    exact writesRegister_setReg s _ 1 (by decide)

end Sys2Proof.Machine

namespace Sys2Proof

/-- Settles O29; outside `Machine`, where the name is the operation's. -/
theorem atomicCompareExchange : Obligations.AtomicCompareExchange :=
  ⟨Machine.compareExchangeClaim fun _ _ _ _ => rfl, Machine.compareExchangeClaim fun _ _ _ _ => rfl⟩

end Sys2Proof
end

section
/-! PROOFS. The platform's answers (20_memory.md R45, 45_imm64.md R372 to R374), the legacy instructions, the fetch and
the step (70_reset_and_hazards.md), and what the other agents do before it (60_exceptions.md R419). -/

namespace Sys2Proof.Machine

/-! ### Admission. -/

/-- Settles O26: the three tests of `Platform.admits`, the alignment by kind. -/
theorem admission : Obligations.Admission := by
  intro p addr n kind
  simp only [Platform.admits, Region.admits, Region.widths, Bool.and_eq_true, decide_eq_true_eq, List.any_eq_true,
    List.contains_iff_mem, and_assoc]
  cases kind <;> simp [aligned, addressCount]

/-! ### Platform lookups. -/

section
variable {s : State} {d : Reg} {a map : Option Word} {v m : Word} {reason : RefusedReason}

theorem loadLookup_some (hd : CanWrite s d) (ha : a = some v) (reason : RefusedReason) :
    loadLookup a reason d s = .next ((s.setReg d (some v)).advance 2) := by
  rw [loadLookup, withDst_ok hd, ha, withLookup, writeDst]

theorem loadLookup_none (hd : CanWrite s d) (ha : a = none) : loadLookup a reason d s = .fault (.refused reason) := by
  rw [loadLookup, withDst_ok hd, ha, withLookup]

theorem loadMapValue_some (hd : CanWrite s d) (hmap : map = some m) (hv : s.platform.mapVal? m = some v)
    (reason : RefusedReason) (nextImm : BitVec 32) :
    loadMapValue map reason nextImm d s = .next ((s.setReg d (some (v + zext64 nextImm))).advance 2) := by
  rw [loadMapValue, withDst_ok hd, hmap, withLookup, hv, withLookup, writeDst]

theorem loadMapValue_noMap (hd : CanWrite s d) (hmap : map = none) (nextImm : BitVec 32) :
    loadMapValue map reason nextImm d s = .fault (.refused reason) := by
  rw [loadMapValue, withDst_ok hd, hmap, withLookup]

theorem loadMapValue_noValue (hd : CanWrite s d) (hmap : map = some m) (hv : s.platform.mapVal? m = none)
    (nextImm : BitVec 32) : loadMapValue map reason nextImm d s = .fault (.refused (.mapVal m)) := by
  rw [loadMapValue, withDst_ok hd, hmap, withLookup, hv, withLookup]

end

theorem lookupClaim {answer : State → BitVec 32 → Option Word} {mk : Reg → BitVec 32 → Instr}
    {reason : BitVec 32 → RefusedReason}
    (hexec : ∀ d imm s, exec (mk d imm) s = loadLookup (answer s imm) (reason imm) d s) : LookupClaim answer mk :=
  fun s d imm _ hd hv =>
    ⟨_, (hexec d imm s).trans (loadLookup_some hd hv _), writesRegister_setReg s _ 2 hd.1⟩

/-- The offset into a map's value is unsigned and the address wraps (45_imm64.md R373). -/
theorem add_zext64_eq_word (v : Word) (nextImm : BitVec 32) :
    v + zext64 nextImm = Ref.word (v.toNat + nextImm.toNat) := by
  apply BitVec.eq_of_toNat_eq
  rw [zext64, Ref.word, BitVec.toNat_add, BitVec.toNat_setWidth, BitVec.toNat_ofNat, Nat.add_mod_mod]

theorem mapValueClaim {map : State → BitVec 32 → Option Word} {mk : Reg → BitVec 32 → BitVec 32 → Instr}
    {reason : BitVec 32 → RefusedReason}
    (hexec : ∀ d imm nextImm s, exec (mk d imm nextImm) s = loadMapValue (map s imm) (reason imm) nextImm d s) :
    MapValueClaim map mk := by
  intro s d imm nextImm m v hd hm hv
  refine ⟨_, (hexec d imm nextImm s).trans (loadMapValue_some hd hm hv _ nextImm), ?_⟩
  rw [add_zext64_eq_word]
  exact writesRegister_setReg s _ 2 hd.1

/-- Settles O31. -/
theorem platformAddresses : Obligations.PlatformAddresses :=
  ⟨lookupClaim (reason := .mapByFd) fun _ _ _ => rfl, lookupClaim (reason := .mapByIdx) fun _ _ _ => rfl,
    lookupClaim (reason := .varAddr) fun _ _ _ => rfl, mapValueClaim (reason := .mapByFd) fun _ _ _ _ => rfl,
    mapValueClaim (reason := .mapByIdx) fun _ _ _ _ => rfl⟩

/-- Settles O33: the first row with the key wins, and an undefined function refuses after the target's check. -/
theorem platformLookups : Obligations.PlatformLookups := by
  refine ⟨fun w table free key => ⟨fun before after a hrows hbefore => ?first, fun hrows htotal => ?missing⟩,
    fun s d imm nextImm hd => ⟨fun h => ?fd, fun h => ?idx, fun h => loadLookup_none hd h, fun m hv => ?value⟩⟩
  case first =>
    have hlookup : table.rows.lookup key = some a := List.lookup_eq_some_iff.mpr
      ⟨before, after, hrows, fun row hrow => by simpa using (hbefore row hrow).symm⟩
    rw [AddrTable.at?, hlookup]
  case missing =>
    have hlookup : table.rows.lookup key = none := List.lookup_eq_none_iff.mpr
      fun row hrow => by simpa using (hrows row hrow).symm
    simp only [AddrTable.at?, hlookup, htotal, Bool.false_eq_true, if_false]
  case fd => exact ⟨loadLookup_none hd h, loadMapValue_noMap hd h nextImm⟩
  case idx => exact ⟨loadLookup_none hd h, loadMapValue_noMap hd h nextImm⟩
  case value =>
    exact ⟨fun h => loadMapValue_noValue hd h hv nextImm, fun h => loadMapValue_noValue hd h hv nextImm⟩

/-! ### Code addresses. -/

theorem exec_ldCodeAddr (d : Reg) (imm : BitVec 32) (s : State) :
    exec (.ldCodeAddr d imm) s =
      loadLookup (s.platform.codeAddr? (s.pc + 1 + Ref.signed 32 imm.toNat))
        (.codeAddr (s.pc + 1 + Ref.signed 32 imm.toNat)) d s := by
  rw [← jumpTarget_eq_signed]
  rfl

theorem Platform.codeAddr?_listed {p : Platform} {n : Nat} {vs : List Word} (h : p.beginsAt n = true)
    (hvs : p.codeAddrs = some vs) : p.codeAddr? n = vs[n]? := by
  rw [Platform.codeAddr?, if_pos h, hvs]
  rfl

theorem Platform.codeAddr?_free {p : Platform} {n : Nat} (h : p.beginsAt n = true) (hvs : p.codeAddrs = none) :
    p.codeAddr? n = some (Config.codeAddr p.seed (BitVec.ofNat 64 n)) := by
  rw [Platform.codeAddr?, if_pos h, hvs]
  rfl

/-- Settles O32: the free values are a permutation of the words, so that slots below 2^64 have different ones. -/
theorem codeAddresses : Obligations.CodeAddresses := by
  refine ⟨fun s d imm hd => ⟨fun v hv => ?defined, fun hbegins => ?undefined⟩,
    fun p n hn => ⟨fun vs hvs => Platform.codeAddr?_listed hn hvs, fun hnone => ⟨?free, fun m hm hlt hlt' heq => ?inj⟩⟩⟩
  case defined =>
    exact ⟨_, (exec_ldCodeAddr d imm s).trans (loadLookup_some hd hv _), writesRegister_setReg s _ 2 hd.1⟩
  case undefined =>
    refine (exec_ldCodeAddr d imm s).trans (loadLookup_none hd ?_)
    rw [Platform.codeAddr?, hbegins]
    rfl
  case free => rw [Platform.codeAddr?_free hn hnone]; rfl
  case inj =>
    rw [Platform.codeAddr?_free hn hnone, Platform.codeAddr?_free hm hnone] at heq
    have hword := congrArg BitVec.toNat ((Config.codeAddr p.seed).injective (Option.some.inj heq))
    rwa [BitVec.toNat_ofNat, BitVec.toNat_ofNat, Nat.mod_eq_of_lt hlt, Nat.mod_eq_of_lt hlt'] at hword

/-! ### Legacy instructions and written-out words. -/

/-- Settles O34: no arm of the decoder or of `exec` looks at the fields of these six. -/
theorem legacyRefused : Obligations.LegacyRefused := by
  intro dst src off imm s second op mk hmk
  simp only [List.mem_cons, List.not_mem_nil, or_false, Prod.mk.injEq] at hmk
  rcases hmk with ⟨rfl, rfl⟩ | ⟨rfl, rfl⟩ | ⟨rfl, rfl⟩ | ⟨rfl, rfl⟩ | ⟨rfl, rfl⟩ | ⟨rfl, rfl⟩ <;> exact ⟨rfl, rfl⟩

/-- Settles O46. -/
theorem decodedWords : Obligations.DecodedWords :=
  ⟨rfl, rfl, rfl, rfl, rfl, rfl, rfl, rfl, rfl⟩

/-! ### Where instructions begin. -/

/-- From a slot that begins an instruction the scan goes on as from the head of a list, the slot after it a second one
where the opcode byte is 0x18. -/
theorem beginsFrom_succ_add {second : Bool} {slots : List Slot} {n : Nat} {slot : Slot}
    (h : beginsFrom second slots n = true) (hslot : slots[n]? = some slot) (k : Nat) :
    beginsFrom second slots (n + 1 + k) = beginsFrom (slot.b0 == 0x18) (slots.drop (n + 1)) k := by
  induction slots generalizing second n with
  | nil => cases hslot
  | cons s rest ih =>
    cases n with
    | zero =>
      cases Option.some.inj hslot
      have hfirst : (!second) = true := h
      rw [Nat.zero_add, Nat.add_comm 1 k, beginsFrom, hfirst, Bool.true_and]
      rfl
    | succ n =>
      rw [Nat.add_right_comm n 1 1, Nat.add_right_comm (n + 1) 1 k, beginsFrom]
      exact ih h hslot

theorem beginsFrom_zero {second : Bool} {slots : List Slot} (h : slots ≠ []) : beginsFrom second slots 0 = !second := by
  cases slots with
  | nil => exact absurd rfl h
  | cons => rfl

theorem beginsFrom_of_length_le {second : Bool} {slots : List Slot} {n : Nat} (h : slots.length ≤ n) :
    beginsFrom second slots n = false := by
  induction slots generalizing second n with
  | nil => rfl
  | cons s rest ih =>
    cases n with
    | zero => cases h
    | succ n => exact ih (Nat.le_of_succ_le_succ h)

/-- A second slot begins nothing. -/
theorem beginsFrom_second_zero (slots : List Slot) : beginsFrom true slots 0 = false := by
  cases slots <;> rfl

/-- After a second slot the next one begins an instruction. -/
theorem beginsFrom_second_one {slots : List Slot} (h : 1 < slots.length) : beginsFrom true slots 1 = true := by
  match slots, h with
  | _ :: _ :: _, _ => rfl

theorem Platform.beginsAt_natCast (p : Platform) (n : Nat) : p.beginsAt n = beginsFrom false p.program n := by
  simp [Platform.beginsAt]

/-- Settles O49. -/
theorem instructionStarts : Obligations.InstructionStarts := by
  intro p
  refine ⟨fun hne => ?zero, fun pc hpc => ?outside, fun n slot hn hslot => ⟨fun hwide => ⟨?second, fun hlt => ?third⟩,
    fun hbasic hlt => ?next⟩⟩
  case zero => exact (p.beginsAt_natCast 0).trans (beginsFrom_zero hne)
  case outside =>
    by_cases h0 : 0 ≤ pc
    · rw [Platform.beginsAt, beginsFrom_of_length_le (by omega), Bool.and_false]
    · simp [Platform.beginsAt, h0]
  all_goals
    rw [Platform.beginsAt_natCast] at hn ⊢
    have hscan := beginsFrom_succ_add hn hslot
  case second =>
    refine (hscan 0).trans ?_
    rw [hwide]
    exact beginsFrom_second_zero _
  case third =>
    refine (hscan 1).trans ?_
    rw [hwide]
    exact beginsFrom_second_one (by rw [List.length_drop]; omega)
  case next =>
    refine (hscan 0).trans ?_
    rw [beq_eq_false_iff_ne.mpr hbasic]
    exact beginsFrom_zero (by rw [ne_eq, List.drop_eq_nil_iff]; omega)

/-! ### The fetch and the step. -/

theorem fetch_outside {s : State} (h : s.platform.beginsAt s.pc = false) : fetch s = .error (.pcOutOfRange s.pc) := by
  simp only [fetch, h, Bool.false_eq_true, if_false]

section
variable {s : State} {slot : Slot} {rest : List Slot}

theorem fetch_decoded {i : Instr} {later : List Slot} (h : s.platform.beginsAt s.pc = true)
    (hslots : s.platform.program.drop s.pc.toNat = slot :: rest)
    (hdecode : decode s.platform.endian (slot :: rest) = .ok (i, later)) : fetch s = .ok i := by
  simp only [fetch, h, if_true, hslots, hdecode]

theorem fetch_undecodable {x : DecodeError} (h : s.platform.beginsAt s.pc = true)
    (hslots : s.platform.program.drop s.pc.toNat = slot :: rest)
    (hdecode : decode s.platform.endian (slot :: rest) = .error x) :
    fetch s = .error (.illegalInstruction s.pc slot) := by
  simp only [fetch, h, if_true, hslots, hdecode]

end

theorem step_fault {s : State} {f : Fault} (hrun : s.result = none) (h : fetch s.otherAgents = .error f) :
    step s = .fault f := by
  simp only [step, hrun, h]

theorem step_exec {s : State} {i : Instr} (hrun : s.result = none) (h : fetch s.otherAgents = .ok i) :
    step s = exec i s.otherAgents := by
  simp only [step, hrun, h]

/-- Settles O48: the other agents change neither `pc` nor the program, so the fetch sees the state before them. -/
theorem stepFaultsAtFetch : Obligations.StepFaultsAtFetch := by
  intro s hrun
  refine ⟨fun h => step_fault hrun ?outside, fun slot rest x h hslots hdecode => step_fault hrun ?undecodable⟩
  case outside =>
    rw [fetch_outside (by simpa using h), State.otherAgents_pc]
  case undecodable =>
    rw [fetch_undecodable (by simpa using h) (by simpa using hslots) (by simpa using hdecode), State.otherAgents_pc]

/-! ### What the other agents write. -/

/-- Scattered writes leave an address alone that none of them names. -/
theorem Memory.get_apply_of_not_mem (m ws : List Host.Cell) {a : Nat} (h : ∀ c ∈ ws, c.1 ≠ a) :
    Memory.get (Memory.apply m ws) a = Memory.get m a := by
  induction ws generalizing m with
  | nil => rfl
  | cons c ws ih =>
    obtain ⟨b, v⟩ := c
    have hrest : ∀ c ∈ ws, c.1 ≠ a := fun c hc => h c (List.mem_cons_of_mem _ hc)
    have hb : a ≠ b := (h (b, v) List.mem_cons_self).symm
    rw [Memory.apply]
    split
    · rw [ih _ hrest, Memory.get_set, if_neg hb]
    · exact ih m hrest

/-- Writes that are left out elsewhere do not change what is written at an address. -/
theorem lastWrite_filter {p : Nat → Bool} (ws : List Host.Cell) {a : Nat} (ha : p a = true) :
    Ref.lastWrite (ws.filter fun c => p c.1) a = Ref.lastWrite ws a := by
  have hstep : ∀ (found : Option Byte) (c : Host.Cell),
      (if p c.1 then (if c.1 = a then some c.2 else found) else found) = if c.1 = a then some c.2 else found := by
    intro found c
    by_cases hc : c.1 = a
    · simp [hc, ha]
    · simp [hc]
  simp only [Ref.lastWrite, List.foldl_filter, hstep]

section
variable {s : State} {turn : AgentTurn} {later : List AgentTurn} {a : Nat}

theorem State.otherAgents_mem (h : s.others = turn :: later) :
    s.otherAgents.mem =
      Memory.apply s.mem ((turn.cells s.platform).filter fun c => s.platform.sharedAt c.1) := by
  simp only [State.otherAgents, h]

/-- No other agent writes a byte that is not shared. -/
theorem State.otherAgents_byteAt_private (ha : ¬ Shared s.platform a) : s.otherAgents.byteAt a = s.byteAt a := by
  have hget : Memory.get s.otherAgents.mem a = Memory.get s.mem a := by
    cases hothers : s.others with
    | nil => simp only [State.otherAgents, hothers]
    | cons turn later =>
      rw [State.otherAgents_mem hothers, Memory.get_apply_of_not_mem]
      rintro c hc rfl
      exact ha ((Platform.sharedAt_iff _ _).mp (List.mem_filter.mp hc).2)
  simp only [State.byteAt, hget, State.otherAgents_platform]

/-- A shared byte holds the last byte that the turn writes to it, or the old one. -/
theorem State.otherAgents_byteAt_shared (h : s.others = turn :: later) (ha : a < addressCount)
    (hshared : Shared s.platform a) :
    s.otherAgents.byteAt a = (Ref.lastWrite (turn.cells s.platform) a).getD (s.byteAt a) := by
  have hlast := lastWrite_filter (turn.cells s.platform) ((Platform.sharedAt_iff s.platform a).mpr hshared)
  rw [State.byteAt, State.otherAgents_mem h, State.otherAgents_platform, Memory.get_apply _ _ ha, hlast]
  cases Ref.lastWrite (turn.cells s.platform) a <;> rfl

end

/-- Settles O47. -/
theorem stepRunsDecoded : Obligations.StepRunsDecoded := by
  intro s i rest hrun hbegins hdecode
  have hfetch : fetch s.otherAgents = .ok i := by
    cases hslots : s.platform.program.drop s.pc.toNat with
    | nil => rw [hslots] at hdecode; cases hdecode
    | cons slot later =>
      rw [hslots] at hdecode
      exact fetch_decoded (by simpa using hbegins) (by simpa using hslots) (by simpa using hdecode)
  refine ⟨step_exec hrun hfetch, fun hnone => ?_, by simp, by simp, by simp, by simp, by simp, by simp, by simp,
    by simp, fun a ha => State.otherAgents_byteAt_private ha,
    fun turn later hothers => ⟨by simp [hothers], fun a ha hshared =>
      State.otherAgents_byteAt_shared hothers ha hshared⟩⟩
  simp only [State.otherAgents, hnone]

/-- Which bytes of another agent's access land (20_memory.md R47). -/
theorem AgentWrite.mem_cells_iff (p : Platform) (w : AgentWrite) (a : Nat) (b : Byte) :
    (a, b) ∈ w.cells p ↔ ∃ i, w.bytes[i]? = some b ∧ a = w.addr + i ∧
      (w.atomic = true ∨ SingleCopy p w.addr w.bytes.length ∨ i ∈ w.landed) := by
  have hlands : ∀ i, (w.whole p || w.landed.contains i) = true ↔
      w.atomic = true ∨ SingleCopy p w.addr w.bytes.length ∨ i ∈ w.landed := fun i => by
    rw [AgentWrite.whole, Bool.or_eq_true, Bool.or_eq_true, Platform.wholeRegular_iff, List.contains_iff_mem, or_assoc]
  simp only [AgentWrite.cells, List.mem_map, List.mem_filter, hlands, Prod.exists, List.mem_zipIdx_iff_getElem?,
    Prod.mk.injEq]
  constructor
  · rintro ⟨c, i, ⟨hc, hl⟩, rfl, rfl⟩
    exact ⟨i, hc, rfl, hl⟩
  · rintro ⟨i, hc, rfl, hl⟩
    exact ⟨b, i, ⟨hc, hl⟩, rfl, rfl⟩

theorem foldl_lastWrite_eq_some {ws : List Host.Cell} {a : Nat} {b : Byte} {found : Option Byte}
    (h : ws.foldl (fun f c => if c.1 = a then some c.2 else f) found = some b) : (a, b) ∈ ws ∨ found = some b := by
  induction ws generalizing found with
  | nil => exact .inr h
  | cons c ws ih =>
    rcases ih h with hmem | hhead
    · exact .inl (List.mem_cons_of_mem _ hmem)
    · by_cases hc : c.1 = a
      · simp only [hc, if_true, Option.some.injEq] at hhead
        left
        rw [← hc, ← hhead]
        exact List.mem_cons_self
      · exact .inr (by simpa only [hc, if_false] using hhead)

theorem foldl_lastWrite_isSome {ws : List Host.Cell} {a : Nat} {found : Option Byte}
    (h : (∃ b, (a, b) ∈ ws) ∨ found.isSome = true) :
    (ws.foldl (fun f c => if c.1 = a then some c.2 else f) found).isSome = true := by
  induction ws generalizing found with
  | nil => simpa using h
  | cons c ws ih =>
    refine ih ?_
    by_cases hc : c.1 = a
    · exact .inr (by simp [hc])
    · rcases h with ⟨b, hb⟩ | hfound
      · rcases List.mem_cons.mp hb with rfl | hmem
        · exact absurd rfl hc
        · exact .inl ⟨b, hmem⟩
      · exact .inr (by simpa [hc] using hfound)

/-- Where every write to an address writes the same byte, that is the last one. -/
theorem lastWrite_eq_some {ws : List Host.Cell} {a : Nat} {b : Byte} (h : (a, b) ∈ ws)
    (hunique : ∀ c, (a, c) ∈ ws → c = b) : Ref.lastWrite ws a = some b := by
  obtain ⟨c, hc⟩ := Option.isSome_iff_exists.mp (foldl_lastWrite_isSome (found := none) (.inl ⟨b, h⟩))
  rcases foldl_lastWrite_eq_some hc with hmem | hnone
  · rw [← hunique c hmem]
    exact hc
  · cases hnone

/-- Settles O56: of a turn of one whole access each byte lands, and no other byte of it has the same address. -/
theorem agentWritesLand : Obligations.AgentWritesLand := by
  refine ⟨AgentWrite.mem_cells_iff, fun s w draws rest hothers hwhole hend hshared i hi => ?_⟩
  have hcells : (AgentTurn.mk [w] draws).cells s.platform = w.cells s.platform := by simp [AgentTurn.cells]
  have hlast : Ref.lastWrite (w.cells s.platform) (w.addr + i) = some w.bytes[i] := by
    refine lastWrite_eq_some ((AgentWrite.mem_cells_iff _ _ _ _).mpr
      ⟨i, List.getElem?_eq_getElem hi, rfl, or_assoc.mp (.inl hwhole)⟩) fun c hc => ?_
    obtain ⟨k, hk, haddr, -⟩ := (AgentWrite.mem_cells_iff _ _ _ _).mp hc
    cases Nat.add_left_cancel haddr
    exact (Option.some.inj ((List.getElem?_eq_getElem hi).symm.trans hk)).symm
  rw [State.otherAgents_byteAt_shared hothers (by omega) (hshared i hi), hcells, hlast, List.getElem?_eq_getElem hi]
  rfl

/-! ### Program entry. -/

/-- A register at entry is the one `EntryRegs` lists (70_reset_and_hazards.md R440). -/
theorem State.entry_reg (p : Platform) (m : List Host.Cell) (r : Reg) :
    (State.entry p m).reg r = if r.toNat ≤ 10 then p.entryRegs.lookup r else none := by
  obtain ⟨⟨k, hk⟩⟩ := r
  interval_cases k <;> rfl

/-- Settles O52. -/
theorem entryState : Obligations.EntryState :=
  ⟨fun p m => ⟨rfl, rfl, rfl, rfl, rfl, rfl, rfl, State.entry_reg p m⟩, rfl, by decide⟩

/-- At reset one region admits every width of a regular access anywhere, so only the alignment is asked. -/
theorem atReset_admits (ok : Bool) {addr : Word} {n : Nat} {kind : AccessKind} (hn : n ∈ [1, 2, 4, 8])
    (hkind : kind ≠ .atomic) (hal : ok = true ∨ addr.toNat % n = 0) (hend : addr.toNat + n ≤ addressCount) :
    ({ Platform.atReset with misalignedOk := ok } : Platform).admits addr n kind = true := by
  rw [admission]
  refine ⟨hend, hal.imp_left fun h => ⟨hkind, h⟩, _, List.mem_cons_self, Nat.zero_le _, ?_, ?_⟩
  · rw [Nat.zero_add]
    exact hend
  · cases kind with
    | read | write => exact hn
    | atomic => exact absurd rfl hkind

/-- The duties of the platform of reset, whether or not misaligned accesses are admitted. -/
theorem atReset_dutiful (ok : Bool) : Platform.Dutiful { Platform.atReset with misalignedOk := ok } := by
  have hstack : (Platform.atReset.maxCallDepth + 1) * Platform.atReset.stackSize ≤ (0x10000 : Word).toNat := by decide
  refine ⟨fun _ h => (nomatch h), ⟨0, rfl⟩, ⟨0x10000, rfl, by decide, hstack, ?_⟩, fun _ h => nomatch h⟩
  intro addr n kind hn hkind hal _ hend
  exact atReset_admits ok hn hkind hal (hend.trans (by decide))

/-- Settles O53. -/
theorem resetPlatformDutiful : Obligations.ResetPlatformDutiful :=
  ⟨atReset_dutiful false, atReset_dutiful true⟩

end Sys2Proof.Machine
end
